-- ==== Sys2Proof/Word.lean ====
section
/-!
DEFINITION. The word types of the DF412: bytes on the lanes and the medium, request tags, and the
3-byte LBA field of a request (spec 00_scope.md "Conventions", 09 R154, R159).
-/

namespace Sys2Proof

/-- A byte, on a lane, on the medium or in a table entry. -/
abbrev Byte := BitVec 8

/-- A request tag, a host sequence number or an event sequence (09 R154, TAG). -/
abbrev Tag := BitVec 8

/-- The 3-byte LBA field of a request frame (09 R159). -/
abbrev Lba := BitVec 24

/-- A 16-bit saturating counter (01 R21, 04 R61, 05 R69, 06 R119, 08 R151, 09 R170). -/
abbrev Counter := BitVec 16

end Sys2Proof
end

