-- ==== Sys2Proof/Config.lean ====
section
/-!
DEFINITION. The sizes the manual fixes for every DF412. The model has no free value: the manual leaves
no result of a command open (INVENTORY.md, "What the manual leaves open").
-/

namespace Sys2Proof.Config

/-- Pages in the buffer (04 R54). -/
def pageCount : Nat := 32

/-- Data bytes of a page, and of a block (04 R54). -/
def pageBytes : Nat := 512

/-- Credits granted to the host, and records in the tag table (05 R67, R68). -/
def creditLimit : Nat := 8

/-- REPLY frames that may be unsent (09 R158). -/
def replyLimit : Nat := 4

/-- Entries the defect map may hold (03 R38). -/
def mapCapacity : Nat := 192

/-- Tachometer pulses in one revolution (07 R121). -/
def pulsesPerRev : Nat := 32

end Sys2Proof.Config
end

