-- ==== Sys2Proof/Machine/Bits.lean ====
section
/-!
DEFINITION. Bits, bytes and checks: big-endian fields, bit streams most significant bit first, the 16-bit
check of 01 R6, the CRC-32 of 10 R182, and the frame layout of 09 R154.
-/

namespace Sys2Proof.Machine

/-! ## Bytes -/

/-- The byte holding the low 8 bits of `n`. -/
def byte (n : Nat) : Byte := BitVec.ofNat 8 n

/-- `n` in two bytes, big-endian (00_scope.md, byte order). -/
def be16 (n : Nat) : List Byte := [byte (n / 256), byte n]

/-- `n` in three bytes, big-endian. -/
def be24 (n : Nat) : List Byte := [byte (n / 65536), byte (n / 256), byte n]

/-- `n` in four bytes, big-endian. -/
def be32 (n : Nat) : List Byte := [byte (n / 16777216), byte (n / 65536), byte (n / 256), byte n]

/-- The number a big-endian byte string stands for. -/
def beNat (bs : List Byte) : Nat := bs.foldl (fun n b => n * 256 + b.toNat) 0

/-- `n` in `k` bytes, big-endian. -/
def beBytes (k n : Nat) : List Byte := (List.range k).map fun i => byte (n / 256 ^ (k - 1 - i))

/-- Byte `i` of a string, 0 past its end. -/
def byteAt (bs : List Byte) (i : Nat) : Byte := bs.getD i 0

/-- A list cut into pieces of `k`, the last one possibly shorter; `fuel` bounds the pieces. -/
def chunks {α : Type} (k : Nat) : Nat → List α → List (List α)
  | 0, _ => []
  | _ + 1, [] => []
  | fuel + 1, x :: xs => (x :: xs).take k :: chunks k fuel ((x :: xs).drop k)

/-- The elements of `xs` with element `i` replaced by `f` of it; `xs` itself where it has no element `i`. -/
def modifyAt {α : Type} (xs : List α) (i : Nat) (f : α → α) : List α :=
  match xs, i with
  | [], _ => []
  | x :: xs, 0 => f x :: xs
  | x :: xs, n + 1 => x :: modifyAt xs n f

/-! ## Bit streams -/

/-- The bits of a byte, most significant first (00_scope.md, bit order). -/
def byteBits (b : Byte) : List Bool :=
  [b.getLsbD 7, b.getLsbD 6, b.getLsbD 5, b.getLsbD 4, b.getLsbD 3, b.getLsbD 2, b.getLsbD 1, b.getLsbD 0]

/-- The number a bit string stands for, most significant bit first. -/
def bitsNat (bits : List Bool) : Nat := bits.foldl (fun n b => 2 * n + b.toNat) 0

/-- The `k` low bits of `n`, most significant first. -/
def natBits (k n : Nat) : List Bool := (List.range k).map fun i => n.testBit (k - 1 - i)

/-- A byte string as one bit stream (01 R4 step 1). -/
def toBits (bs : List Byte) : List Bool := bs.flatMap byteBits

/-- A byte as either lane carries it: a start bit of 0, then its bits (09 R153). -/
def laneByte (b : Byte) : List Bool := false :: byteBits b

/-! ## Checks -/

/-- `k n`, with `n` brought to a numeral first, so that a long check is evaluated step by step. -/
def forced {α : Type} (n : Nat) (k : Nat → α) : α :=
  match n with
  | 0 => k 0
  | m + 1 => k (m + 1)

/-- One shift of the 16-bit check, generator x^16 + x^12 + x^5 + 1 (01 R6). -/
def crc16Bit (r : Nat) : Nat :=
  if r.testBit 15 then (r * 2 % 65536) ^^^ 0x1021 else r * 2

def crc16Bits : Nat → Nat → Nat
  | 0, r => r
  | n + 1, r => forced (crc16Bit r) (crc16Bits n)

/-- The check continued from register value `r`, each byte most significant bit first (01 R6). -/
def crc16From : Nat → List Byte → Nat
  | r, [] => r
  | r, b :: bs => forced (crc16Bits 8 (r ^^^ (b.toNat * 256))) fun r' => crc16From r' bs

/-- The 16-bit check of address fields, data fields and frames (01 R6): start FFFFh, no reflection, no
final inversion. -/
def crc16 (bs : List Byte) : Nat := crc16From 0xFFFF bs % 65536

/-- One shift of the reflected CRC-32, generator 04C11DB7h (10 R182). -/
def crc32Bit (r : Nat) : Nat :=
  if r.testBit 0 then (r / 2) ^^^ 0xEDB88320 else r / 2

def crc32Bits : Nat → Nat → Nat
  | 0, r => r
  | n + 1, r => forced (crc32Bit r) (crc32Bits n)

def crc32From : Nat → List Byte → Nat
  | r, [] => r
  | r, b :: bs => forced (crc32Bits 8 (r ^^^ b.toNat)) fun r' => crc32From r' bs

/-- The check word's CRC-32 (10 R182): start FFFFFFFFh, reflected, finally inverted. -/
def crc32 (bs : List Byte) : BitVec 32 := ~~~ BitVec.ofNat 32 (crc32From 0xFFFFFFFF bs)

/-! ## Frames -/

/-- SYNC (09 R154). -/
def syncByte : Byte := 0xC3

/-- The bytes of a frame that its CRC covers: LEN, KIND, TAG, PAYLOAD (09 R154). -/
def frameBody (kind tag : Byte) (payload : List Byte) : List Byte :=
  be16 (payload.length + 2) ++ kind :: tag :: payload

/-- A whole frame as it goes over a lane (09 R154). -/
def frameBytes (kind tag : Byte) (payload : List Byte) : List Byte :=
  syncByte :: (frameBody kind tag payload ++ be16 (crc16 (frameBody kind tag payload)))

/-- A saturating 16-bit counter rises by one (01 R21). -/
def bump (c : Counter) : Counter := if c = 0xFFFF#16 then c else c + 1

end Sys2Proof.Machine
end

