-- ==== Sys2Proof/Syntax.lean ====
section
/-!
DEFINITION. The commands of the DF412: one constructor per row of spec/opcode_table.json. The table gives
no operand fields; each operand below is what the rule named in the row needs from outside the part
(log entry 1). The part itself has no instruction encoding: a command is an event at one of its interfaces
(95_what_each_step_holds.md).
-/

namespace Sys2Proof

/-- The two reset inputs (00_scope.md, pin summary). -/
inductive ResetLine where
  | reset
  | lrst
  deriving DecidableEq, Repr

/-- The commands. -/
inductive Instr where
  /-- POWER_ON (10 R184). -/
  | powerOn
  /-- RESET, the assertion of the RESET input (09 R168). -/
  | reset
  /-- LRST, the assertion of the LRST input, with the bit cells since the codec took any last, as RDATA levels, that are
  taken before it; none where it comes alone or is taken first (09 R168; 08 R148). -/
  | lrst (bits : List Bool := [])
  /-- RESET_RELEASE, the release of one of the two lines (09 R169). -/
  | resetRelease (line : ResetLine)
  /-- HI_BYTE, with the levels of HI_DAT at the clock edges since the one before it (09 R153, R155). -/
  | hiByte (bits : List Bool)
  /-- READ request frame (05 R70, 09 R159). -/
  | read (tag : Tag) (lba : Lba) (count flags : Byte)
  /-- WRITE request frame (05 R70, 09 R159). -/
  | write (tag : Tag) (lba : Lba) (count flags : Byte)
  /-- VERIFY request frame (05 R70, 09 R159). -/
  | verify (tag : Tag) (lba : Lba) (count flags : Byte)
  /-- FORMAT request frame (05 R70, 09 R159). -/
  | format (tag : Tag) (cylinder head flags : Byte)
  /-- REASSIGN request frame (05 R70, 09 R159). -/
  | reassign (tag : Tag) (lba : Lba)
  /-- RECAL request frame (05 R70, 09 R159). -/
  | recal (tag : Tag)
  /-- SPIN request frame (05 R70, 09 R159). -/
  | spin (tag : Tag) (mode : Byte)
  /-- Host BLOCK frame (04 R60, 09 R160). -/
  | block (tag : Tag) (index : Byte) (data : List Byte)
  /-- LOAD_OPEN (10 R173). -/
  | loadOpen (seq table : Byte)
  /-- LOAD_PUT (10 R174). -/
  | loadPut (seq : Byte) (entries : List Byte)
  /-- LOAD_CLOSE (10 R175). -/
  | loadClose (seq : Byte)
  /-- LOAD_DROP (10 R177). -/
  | loadDrop (seq table : Byte)
  /-- COMMIT (10 R178). -/
  | commit (seq : Byte)
  /-- TABLE_GET (10 R186). -/
  | tableGet (seq table first : Byte)
  /-- WIPE (10 R185). -/
  | wipe (seq : Byte)
  /-- QUERY (11 R196). -/
  | query (seq flags : Byte)
  /-- EVENT_SET (11 R194). -/
  | eventSet (seq : Byte) (mask : BitVec 16)
  /-- EVENT_ACK (11 R192). -/
  | eventAck (seq acked : Byte)
  /-- ABORT (05 R84). -/
  | abort (seq : Byte) (tag : Tag)
  /-- NOTICE_SENT, the last byte of the NOTICE has left (09 R167). -/
  | noticeSent
  /-- REPLY_SENT, the last byte of a REPLY has left (09 R158). -/
  | replySent
  /-- DONE_SENT, the last byte of a DONE has left (05 R68). -/
  | doneSent
  /-- CALL_SENT, the last byte of a CALL has left (04 R59). -/
  | callSent
  /-- BLOCK_SENT, the last byte of a read BLOCK has left (04 R63). -/
  | blockSent
  /-- EVENT_SENT, the last byte of an EVENT has left (11 R191). -/
  | eventSent
  /-- DATA_TIMEOUT, the data timer of the WRITE under `tag` expires (04 R59). -/
  | dataTimeout (tag : Tag)
  /-- TACH_PULSE, `ns` nanoseconds after the pulse before it (07 R121). -/
  | tachPulse (ns : Nat)
  /-- ENTER_LOCKED, the in-band count reaches 4 (07 R125). -/
  | enterLocked
  /-- ENTER_LOST, the out-band count reaches 2 (07 R126). -/
  | enterLost
  /-- STALL_TIMEOUT, no TACH pulse for 1 s in LOCKED (07 R126). -/
  | stallTimeout
  /-- SPINUP_TIMEOUT, the spin-up timer expires (07 R125). -/
  | spinupTimeout
  /-- RETARGET_TIMEOUT, the retarget timer expires (07 R127). -/
  | retargetTimeout
  /-- SILENCE_TIMEOUT, the silence timer expires (07 R129). -/
  | silenceTimeout
  /-- IDLE_TIMEOUT, the idle timer reaches idle_s (07 R133). -/
  | idleTimeout
  /-- STEP_TIMER_EXPIRY, with the TRK0 level sampled then (08 R142, R145). -/
  | stepTimerExpiry (trk0 : Bool)
  /-- SETTLE_TIMER_EXPIRY, with the TRK0 level sampled then (08 R143, R146). -/
  | settleTimerExpiry (trk0 : Bool)
  /-- ADDRESS_FIELD_END, with the bit cells since the codec took any last, as RDATA levels (01 R11). -/
  | addressFieldEnd (bits : List Bool)
  /-- HUNT_TIMEOUT, hunt revolutions reach hunt_revs (06 R98). -/
  | huntTimeout
  /-- DATA_MARK_TIMEOUT, no data mark within 16 byte times (01 R14). -/
  | dataMarkTimeout
  /-- DATA_READ_END, with the RDATA bits since the codec took any last (01 R14). -/
  | dataReadEnd (bits : List Bool)
  /-- GAP2_END, the 6 byte times of gap 2 have passed (01 R16). -/
  | gap2End
  /-- WRITTEN, the data field's 690th byte has been sent (01 R16). -/
  | written
  /-- WPROT_CHANGE, the WPROT input takes a level (11 R195). -/
  | wprotChange (active : Bool)
  /-- RESEND_TIMEOUT, the resend timer expires (11 R193). -/
  | resendTimeout
  /-- VRET_LOSS, the retention supply has failed (10 R183). -/
  | vretLoss
  deriving DecidableEq, Repr

end Sys2Proof
end

