-- ==== Sys2Proof/Machine/State.lean ====
section
/-!
DEFINITION. Everything the manual gives the DF412 to hold, block by block, as plain data, the reasons a
command could stop, and the state right after power-on. Names follow the manual's; each type cites the rule
that lists its fields.
-/

namespace Sys2Proof.Machine

/-! ## Stops -/

/-- Faults: none. Every failure the manual describes is an effect on State. -/
inductive Fault where
  deriving DecidableEq, Repr

/-- Refusals. -/
inductive Refusal where
  /-- Raised by exec for a command without a meaning; no command of this model is without one. Safe. -/
  | notModelled (mnemonic : String)
  deriving DecidableEq, Repr

/-! ## Reset lines and NOTICE (09 R165, R168, R169) -/

/-- What reset the part, as the NOTICE reports it (09 R165). -/
inductive ResetKind where
  | power
  | resetLine
  | link
  deriving DecidableEq, Repr

/-- How the table store came up (10 R184). -/
inductive StartKind where
  | warm
  | cold
  deriving DecidableEq, Repr

/-- What a NOTICE not yet wholly sent will carry whatever happens next (09 R169); tag t is bit t. -/
structure NoticeSeed where
  kind : ResetKind
  tags : BitVec 256
  deriving DecidableEq, Repr

structure Lines where
  /-- RESET is asserted. -/
  reset : Bool
  /-- LRST is asserted. -/
  lrst : Bool
  seed : Option NoticeSeed
  deriving DecidableEq, Repr

/-! ## Frames the part sends (09 R162 to R165) -/

structure Notice where
  kind : ResetKind
  start : StartKind
  generation : BitVec 16
  credits : Nat
  tags : BitVec 256
  deriving DecidableEq, Repr

/-- The status a DONE carries (05 R88). -/
inductive Status where
  | ok
  | okRecovered
  | okReallocated
  | notConfigured
  | badField
  | lbaRange
  | writeProtected
  | aborted
  | dataTimeout
  | sectorNotFound
  | dataError
  | verifyFailed
  | seekFault
  | spinFault
  | sparesExhausted
  | mapFull
  | formatErrors
  deriving DecidableEq, Repr

/-- What a DONE reports besides its tag (05 R88); also the engine's end report (05 R87). -/
structure DoneReport where
  status : Status
  blocksDone : Nat
  retriesUsed : Nat
  firstFailing : Option Nat
  failing : Option (BitVec 32)
  deriving DecidableEq, Repr

/-- Why a table or an argument was refused (09 R163). -/
inductive Reason where
  | field
  | order
  | duplicate
  | tooFew
  | tooMany
  | geometry
  | budget
  deriving DecidableEq, Repr

/-- A refusal with the entry it names (09 R163). -/
structure Rejection where
  reason : Reason
  index : Nat
  deriving DecidableEq, Repr

/-- The result of a REPLY and the fields after it (09 R163). -/
inductive ReplyBody where
  | ok
  | okTable (generation : BitVec 16) (total first : Nat) (entries : List (List Byte))
  | okStatus (record : List Byte)
  | badTable
  | sessionOpen
  | noSession
  | rejected (r : Rejection)
  | queueBusy
  | staleStage
  | missingTable
  | noSuchTag
  | badSeq
  | notConfigured
  deriving DecidableEq, Repr

structure Reply where
  /-- The TAG of the management frame answered (09 R158). -/
  seq : Byte
  body : ReplyBody
  deriving DecidableEq, Repr

/-- The event kinds (11 R189). -/
inductive EventKind where
  | spinLocked
  | spinLost
  | spinStopped
  | spinFault
  | wpAssert
  | wpRelease
  | positionFault
  | mapGrown
  | sparesLow
  | linkError
  | tablesCommitted
  deriving DecidableEq, Repr

/-- A frame of the outbound DONE/CALL queue (09 R166). -/
inductive DoneCall where
  | done (tag : Tag) (report : DoneReport)
  | call (tag : Tag)
  deriving DecidableEq, Repr

/-- The frame being sent on HO (09 R166). -/
inductive OutFrame where
  | notice (n : Notice)
  | reply (r : Reply)
  | done (tag : Tag) (report : DoneReport)
  | call (tag : Tag)
  /-- A read block leaving page `page` (04 R63). -/
  | block (tag : Tag) (index : Nat) (data : List Byte) (page : Nat)
  | event (seq : Byte) (kind : EventKind) (count : Nat) (detail : BitVec 24)
  deriving DecidableEq, Repr

/-- The output arbiter (09 R166). A NOTICE and a REPLY stay in their class until wholly sent (R167); class 5 is
the event unit's offered frame. -/
structure Arbiter where
  notice : Option Notice
  replies : List Reply
  doneCall : List DoneCall
  /-- Pages offered, by number. -/
  blocks : List Nat
  ho : Option OutFrame
  deriving DecidableEq, Repr

/-! ## Link receiver (09 R155, R170) -/

inductive Receiver where
  | hunt
  | header (first : Option Byte)
  | body (len : Nat) (bytes : List Byte)
  deriving DecidableEq, Repr

structure Link where
  rx : Receiver
  /-- The bit receiver (09 R153): waiting for a start bit, or the bits taken of a byte, fewer than eight. -/
  lane : Option (List Bool)
  badCrc : Counter
  badLength : Counter
  overrun : Counter
  deriving DecidableEq, Repr

/-! ## Request queue (05 R67 to R90) -/

/-- A request frame's kind and fields (09 R159). -/
inductive Request where
  | read (lba : Lba) (count flags : Byte)
  | write (lba : Lba) (count flags : Byte)
  | verify (lba : Lba) (count flags : Byte)
  | format (cylinder head flags : Byte)
  | reassign (lba : Lba)
  | recal
  | spin (mode : Byte)
  deriving DecidableEq, Repr

/-- The states of a request record (05 R74). -/
inductive ReqState where
  | accepted
  | awaitPages
  | awaitData
  | ready
  | active
  deriving DecidableEq, Repr

/-- A request record (05 R73); what R73 lists besides is held where INVENTORY.md says. -/
structure Record where
  tag : Tag
  req : Request
  state : ReqState
  passCount : Nat
  endReport : Option DoneReport
  deriving DecidableEq, Repr

inductive Direction where
  | inward
  | outward
  deriving DecidableEq, Repr

structure Queue where
  /-- The tag table, oldest first (05 R67). -/
  records : List Record
  credits : Nat
  /-- The unsent-DONE list (05 R68). -/
  unsent : List Tag
  direction : Direction
  refused : Counter
  deriving DecidableEq, Repr

/-! ## Buffer manager (04 R54 to R58) -/

/-- A page's state, with owner and block index where it has them (04 R54, R55). -/
inductive PageUse where
  | free
  | filling (owner : Tag) (index : Nat)
  | full (owner : Tag) (index : Nat)
  | sending (owner : Tag) (index : Nat)
  deriving DecidableEq, Repr

structure Page where
  use : PageUse
  data : List Byte
  deriving DecidableEq, Repr

inductive CallState where
  | queued
  | sending
  | sent
  deriving DecidableEq, Repr

/-- The write-data record of a WRITE in AWAIT_DATA (04 R58). -/
structure WriteData where
  tag : Tag
  /-- The block indexes received, no index twice. -/
  received : List Nat
  call : CallState
  /-- The data timer: its length in seconds while it runs (04 R59). -/
  timer : Option Nat
  deriving DecidableEq, Repr

structure Buffer where
  pages : List Page
  fifo : List Tag
  writes : List WriteData
  discards : Counter
  deriving DecidableEq, Repr

/-! ## Table store (10 R171, R172; 02 R28; 03 R38, R42) -/

inductive TableId where
  | device
  | zone
  | code
  | defect
  deriving DecidableEq, Repr

/-- The device record (10 R187). -/
structure Device where
  cylinders : Nat
  cellCode : Nat
  stepMs : Nat
  settleMs : Nat
  spinupS : Nat
  retargetS : Nat
  idleS : Nat
  startLevel : Nat
  huntRevs : Nat
  readRetries : Nat
  writeRetries : Nat
  autoRealloc : Bool
  verifyDefault : Bool
  spareLow : Nat
  dataTimeoutS : Nat
  eventResendS : Nat
  deriving DecidableEq, Repr

/-- An entry of the zone table (10 R187). -/
structure Zone where
  firstCyl : Nat
  cylCount : Nat
  rpm : Nat
  spt : Nat
  gap3 : Nat
  spareCyl : Nat
  writeLock : Bool
  deriving DecidableEq, Repr

inductive Origin where
  | loaded
  | grown
  deriving DecidableEq, Repr

/-- An entry of the defect map (03 R38). -/
inductive Defect where
  | remap (lba slot : Nat) (origin : Origin)
  | retire (zone slot : Nat) (origin : Origin)
  deriving DecidableEq, Repr

/-- The active table set (10 R171). -/
structure ActiveSet where
  device : Device
  zones : List Zone
  code : List Byte
  map : List Defect
  deriving DecidableEq, Repr

/-- A derived zone record (02 R28). -/
structure ZoneRec where
  firstLba : Nat
  dataCapacity : Nat
  spareSlots : Nat
  firstSpareCyl : Nat
  lastCyl : Nat
  deriving DecidableEq, Repr

inductive SlotState where
  | free
  | used
  | retired
  deriving DecidableEq, Repr

/-- A zone's slot states and free count (03 section 3.2). -/
structure ZoneSlots where
  states : List SlotState
  free : Nat
  deriving DecidableEq, Repr

inductive StageState where
  | empty
  | loading
  | valid
  | rejected (r : Rejection)
  | stale
  deriving DecidableEq, Repr

/-- A staging table: its state and the entries appended, each as its bytes (10 R172, R174). -/
structure Stage where
  state : StageState
  entries : List (List Byte)
  deriving DecidableEq, Repr

structure Staging where
  device : Stage
  zone : Stage
  code : Stage
  defect : Stage
  deriving DecidableEq, Repr

/-- The retained image: its byte sequence and stored check word, or contents unknown after VRET has failed
(10 R182, R183). -/
inductive RetainedImage where
  | contents (bytes : List Byte) (check : BitVec 32)
  | unknown
  deriving DecidableEq, Repr

structure Tables where
  active : Option ActiveSet
  generation : BitVec 16
  start : StartKind
  staging : Staging
  session : Option TableId
  zoneRecs : List ZoneRec
  slots : List ZoneSlots
  /-- The inverse code table: position v holds the group of byte v, if v is a code byte (01 R3). -/
  inverse : List (Option Nat)
  image : RetainedImage
  deriving DecidableEq, Repr

/-! ## Channel codec (01 R10, R21) -/

/-- A sector as an address field names it (01 R7). -/
structure SectorId where
  cylinder : Nat
  head : Nat
  sector : Nat
  zone : Nat
  deriving DecidableEq, Repr

/-- Where the data of a written or compared field comes from: a page, or 512 zero bytes (03 R45). -/
inductive DataRef where
  | page (p : Nat)
  | zeros
  deriving DecidableEq, Repr

/-- The action a hunt is armed with (01 R10). -/
inductive Action where
  | read (page : Nat)
  | compare (data : DataRef)
  | discard
  | write (data : DataRef)
  deriving DecidableEq, Repr

/-- Where a track write stands: before its start pulse, or the pulses counted, the nanoseconds passed since it and the
sectors wholly sent by the last pulse (01 R10, R18). -/
inductive TrackPhase where
  | waiting
  | running (pulses ns sectors : Nat)
  deriving DecidableEq, Repr

/-- Where a sector write stands (01 R10, R16): the gap count with the gate off, or the byte count and the running CRC
with the gate up. Both are counted in bit cells, eight to a byte time. -/
inductive WritePhase where
  | gap (cells : Nat)
  | sending (cells : Nat) (crc : BitVec 16)
  deriving DecidableEq, Repr

/-- A field being read from its mark on (01 R10 to R14). -/
structure OpenField where
  /-- The byte framer: the bits of the byte being framed, fewer than eight. -/
  framer : List Bool
  /-- The byte count: code bytes read. -/
  count : Nat
  /-- The group assembler: decoded bits that make no whole byte yet. -/
  assembler : List Bool
  /-- The payload bytes decoded so far. -/
  payload : List Byte
  /-- The running check over the covered bytes among them. -/
  crc : BitVec 16
  deriving DecidableEq, Repr

/-- The shift state of RDATA (01 R10 to R14). -/
structure Reader where
  /-- The match window: the last 24 bits compared. -/
  window : BitVec 24
  /-- Bits compared in the data-mark search. -/
  searched : Nat
  field : Option OpenField
  deriving DecidableEq, Repr

/-- Nothing compared yet and no field open. -/
def Reader.clear : Reader := ⟨0, 0, none⟩

/-- The codec's modes with what they hold besides the reader (01 R10). -/
inductive CodecMode where
  | idle
  | hunt (target : SectorId) (action : Action)
  | dataRead (target : SectorId) (action : Action)
  | dataWrite (target : SectorId) (data : DataRef) (phase : WritePhase)
  | trackWrite (cylinder head zone : Nat) (phase : TrackPhase)
  deriving DecidableEq, Repr

structure Codec where
  mode : CodecMode
  /-- A STOP is held until the field in progress ends (01 R10). -/
  stopHeld : Bool
  /-- The head the engine named last (01 section 1.6). -/
  head : Nat
  reader : Reader
  /-- The recorded bytes that go out on WDATA while the gate is up (01 R16 to R18); FILL follows them. -/
  wdata : List Byte
  addrErrors : Counter
  decodeFaults : Counter
  deriving DecidableEq, Repr

/-! ## Media engine (06 R91; 03 R45) -/

inductive Source where
  | home
  | spare (slot : Nat)
  deriving DecidableEq, Repr

/-- A placement (02 R33). -/
structure Placement where
  lba : Nat
  zone : Nat
  cylinder : Nat
  head : Nat
  sector : Nat
  source : Source
  writeLock : Bool
  rpm : Nat
  deriving DecidableEq, Repr

/-- The stages of the operation record (06 R91). REALLOCATE is open while `Op.chain` is present; the stage then
says where its pass stands (R109). -/
inductive EngineStage where
  | translate
  | positionSpeed
  | hunt
  | transfer
  | verify
  | trackWrite
  | spinWait
  | recalibrate
  | drain
  deriving DecidableEq, Repr

/-- What the pass does at its target once the head and the spindle are there (06 R97, R107, R110, R112). -/
inductive Purpose where
  | read
  | discard
  | write
  | compare
  | trackWrite
  | formatVerify (sector : Nat)
  deriving DecidableEq, Repr

/-- The kinds of failed pass seen on the block (06 R91). -/
inductive Failures where
  | none
  | huntOnly
  | mixed
  deriving DecidableEq, Repr

/-- Where the engine's current stage works: a placement, a slot on trial, or a FORMAT's track (06 R93, R109,
R110). -/
structure Target where
  cylinder : Nat
  head : Nat
  sector : Nat
  zone : Nat
  rpm : Nat
  deriving DecidableEq, Repr

/-- The reallocation record (03 R45); its data follows from the request's kind. -/
structure Chain where
  lba : Nat
  zone : Nat
  oldSlot : Option Nat
  slotsTried : Nat
  slot : Option Nat
  deriving DecidableEq, Repr

/-- The operation record (06 R91). -/
structure Op where
  tag : Tag
  req : Request
  stage : EngineStage
  cursor : Nat
  placement : Option Placement
  target : Target
  purpose : Purpose
  posOpen : Bool
  speedOpen : Bool
  pass : Nat
  failures : Failures
  faultCount : Nat
  huntRevs : Nat
  /-- The revolution in progress began at or after the arming (06 R98). -/
  huntFresh : Bool
  awaitingRelock : Bool
  blocksDone : Nat
  retriesUsed : Nat
  recovered : Bool
  reallocated : Bool
  abortPending : Bool
  failing : BitVec 32
  chain : Option Chain
  deriving DecidableEq, Repr

structure Engine where
  /-- The operation record, or IDLE. -/
  op : Option Op
  readRetries : Counter
  writeRetries : Counter
  reallocs : Counter
  deriving DecidableEq, Repr

/-! ## Spindle controller (07 R121 to R124) -/

inductive SpinState where
  | stopped
  | starting
  | locked
  | retargeting
  | lost
  | stopping
  deriving DecidableEq, Repr

/-- The speed target (07 R122). -/
structure SpinTarget where
  rpm : Nat
  zone : Nat
  deriving DecidableEq, Repr

/-- Revolution framing (07 R121): off, waiting for its first pulse, or the pulses and the time since the pulse
that began the revolution. -/
inductive Framing where
  | off
  | waiting
  | running (pulses ns : Nat)
  deriving DecidableEq, Repr

/-- Why a stop began (07 R124). -/
inductive StopCause where
  | idle
  | request
  deriving DecidableEq, Repr

structure Spindle where
  state : SpinState
  target : Option SpinTarget
  level : Nat
  inBand : Nat
  outBand : Nat
  /-- Microseconds; 0 when no revolution has closed (07 R124). -/
  lastPeriod : Nat
  framing : Framing
  stopCause : Option StopCause
  /-- Length in seconds while it runs (07 R125, R134). -/
  spinupTimer : Option Nat
  /-- Length in seconds while it runs (07 R127, R134). -/
  retargetTimer : Option Nat
  silenceTimer : Bool
  deriving DecidableEq, Repr

/-! ## Head positioner (08 R138 to R140) -/

/-- The positioner's states with what they hold (08 R139, R140, R144). -/
inductive PosState where
  | unknown
  | idle (cylinder : Nat)
  /-- `step` is the step position. -/
  | stepping (step target : Nat)
  /-- `recal` tells a settle that ends a recalibration (R146) from one that ends a seek (R143). -/
  | settling (target : Nat) (recal : Bool)
  | recalibrating (taken origin limit : Nat)
  deriving DecidableEq, Repr

/-- A request that waits for a movement to end (08 R141, R144). -/
inductive HeldRequest where
  | seek (cylinder : Nat)
  | recalibrate
  deriving DecidableEq, Repr

structure Positioner where
  state : PosState
  phase : BitVec 2
  /-- The phase the register names is driven. -/
  energised : Bool
  held : Option HeldRequest
  /-- Length in ms while it runs (08 R149). -/
  stepTimer : Option Nat
  /-- Length in ms while it runs (08 R149). -/
  settleTimer : Option Nat
  seeks : Counter
  recals : Counter
  deriving DecidableEq, Repr

/-! ## Event unit (11 R189) -/

structure EventRecord where
  kind : EventKind
  count : Nat
  detail : BitVec 24
  deriving DecidableEq, Repr

inductive EventFrame where
  | offered
  | sending
  | sent
  deriving DecidableEq, Repr

/-- AWAITING_ACK: the sequence of the head record and where its frame stands (11 R189). -/
structure Outstanding where
  seq : Byte
  frame : EventFrame
  deriving DecidableEq, Repr

structure Events where
  queue : List EventRecord
  mask : BitVec 16
  sequence : Byte
  outstanding : Option Outstanding
  /-- Length in seconds while it runs (11 R193). -/
  resendTimer : Option Nat
  deriving DecidableEq, Repr

/-! ## Write-protect sense (11 R195) -/

structure Pins where
  /-- The level of the WPROT input. -/
  wprotPin : Bool
  /-- The level the sense holds. -/
  wprot : Bool
  deriving DecidableEq, Repr

/-! ## The whole part -/

/-- The DF412, with the model's queue of waiting commands. -/
structure State where
  lines : Lines
  link : Link
  arb : Arbiter
  queue : Queue
  buffer : Buffer
  tables : Tables
  engine : Engine
  codec : Codec
  spindle : Spindle
  pos : Positioner
  events : Events
  pins : Pins
  /-- The commands waiting, first in, first out. -/
  pending : List Instr
  deriving DecidableEq, Repr

/-! ## The blocks after power-on and RESET -/

/-- Every link counter 0 and the receiver in HUNT (09 R168, R170). DESIGN CHOICE (log entry 32): the bit receiver waits
for a start bit. Unsafe. -/
def Link.reset : Link := ⟨.hunt, none, 0, 0, 0⟩

/-- Every class empty and the lane free (09 R168). -/
def Arbiter.reset : Arbiter := ⟨none, [], [], [], none⟩

/-- 05 R90. -/
def Queue.reset : Queue := ⟨[], Config.creditLimit, [], .inward, 0⟩

/-- A FREE page. DESIGN CHOICE (log entry 14): its bytes are zero before anything fills it. Unsafe for a claim
about those bytes; no command sends or writes a page that nothing has filled (04 R54). -/
def Page.reset : Page := ⟨.free, List.replicate Config.pageBytes 0⟩

/-- 04 R66. -/
def Buffer.reset : Buffer := ⟨List.replicate Config.pageCount Page.reset, [], [], 0⟩

/-- 06 R120. -/
def Engine.reset : Engine := ⟨none, 0, 0, 0⟩

/-- 01 R22. DESIGN CHOICE (log entry 15): the head named last is 0. Unsafe. -/
def Codec.reset : Codec := ⟨.idle, false, 0, .clear, [], 0, 0⟩

/-- 07 R137. -/
def Spindle.reset : Spindle := ⟨.stopped, none, 0, 0, 0, 0, .off, none, none, none, false⟩

/-- 08 R152. -/
def Positioner.reset : Positioner := ⟨.unknown, 0, false, none, none, none, 0, 0⟩

/-- 11 R197: every kind ENABLED. -/
def Events.reset : Events := ⟨[], 0x07FF, 0, none, none⟩

def Stage.reset : Stage := ⟨.empty, []⟩

/-- Every staging table EMPTY (10 R184). -/
def Staging.reset : Staging := ⟨.reset, .reset, .reset, .reset⟩

/-- The sequence of an empty set: generation 0, a zero device record, no zone, 64 zero code bytes, no defect
entry (10 R182). -/
def emptyImageBytes : List Byte := List.replicate 84 0

/-- The cleared image: its check word is the inverse of the matching one (10 R182). -/
def clearedImage : RetainedImage := .contents emptyImageBytes (~~~ crc32 emptyImageBytes)

/-- No position holds a group (01 R3). -/
def emptyInverse : List (Option Nat) := List.replicate 256 none

/-- The table store after a COLD start (10 R184). -/
def Tables.cold : Tables :=
  { active := none, generation := 0, start := .cold, staging := .reset, session := none,
    zoneRecs := [], slots := [], inverse := emptyInverse, image := clearedImage }

/-- The part with no reset asserted and nothing to send, every block as power-on leaves it, over a table
store that has started. -/
def State.afterReset (tables : Tables) (pins : Pins) (pending : List Instr) : State :=
  { lines := ⟨false, false, none⟩, link := .reset, arb := .reset, queue := .reset, buffer := .reset,
    tables := tables, engine := .reset, codec := .reset, spindle := .reset, pos := .reset,
    events := .reset, pins := pins, pending := pending }

/-- The NOTICE of a power-on with a COLD start (09 R169). -/
def coldNotice : Notice := ⟨.power, .cold, 0, Config.creditLimit, 0⟩

/-- The machine right after power-on with a COLD start: its NOTICE has been produced and started on HO
(09 R166, R169; log entry 3). DESIGN CHOICE (log entry 26): WPROT inactive. Unsafe. -/
def State.reset : State :=
  { State.afterReset .cold ⟨false, false⟩ [] with
    lines := ⟨false, false, some ⟨.power, 0⟩⟩
    arb := { Arbiter.reset with notice := some coldNotice, ho := some (.notice coldNotice) } }

/-! ## Replacing one block's state -/

def State.setLines (s : State) (x : Lines) : State := { s with lines := x }
def State.setLink (s : State) (x : Link) : State := { s with link := x }
def State.setArb (s : State) (x : Arbiter) : State := { s with arb := x }
def State.setQueue (s : State) (x : Queue) : State := { s with queue := x }
def State.setBuffer (s : State) (x : Buffer) : State := { s with buffer := x }
def State.setTables (s : State) (x : Tables) : State := { s with tables := x }
def State.setEngine (s : State) (x : Engine) : State := { s with engine := x }
def State.setCodec (s : State) (x : Codec) : State := { s with codec := x }
def State.setSpindle (s : State) (x : Spindle) : State := { s with spindle := x }
def State.setPos (s : State) (x : Positioner) : State := { s with pos := x }
def State.setEvents (s : State) (x : Events) : State := { s with events := x }
def State.setPins (s : State) (x : Pins) : State := { s with pins := x }
def State.setPending (s : State) (x : List Instr) : State := { s with pending := x }

/-! ## The named operations' view of the record a tag names -/

/-- A reset line is asserted (09 R168). -/
def State.resetHeld (s : State) : Bool := s.lines.reset || s.lines.lrst

end Sys2Proof.Machine
end

