-- ==== Sys2Proof/Machine/Ops.lean ====
section
/-!
DEFINITION. The named reads and small updates every block's rules are written over: request fields, the tag
table, pages, write-data records, and the parameters in force.
-/

namespace Sys2Proof.Machine

/-- What a command answers. -/
abbrev Result := Host.Outcome State Fault Refusal

/-! ## Requests (05 R73, R75, R76; 09 R159) -/

/-- Bit 0 of a flags byte, VERIFY (09 R159). -/
def flagVerify (flags : Byte) : Bool := flags.getLsbD 0

/-- FORMAT, REASSIGN, RECAL and SPIN are barriers (05 R76). -/
def Request.isBarrier : Request → Bool
  | .read .. | .write .. | .verify .. => false
  | .format .. | .reassign _ | .recal | .spin _ => true

/-- READ and WRITE need pages (04 section 4.2). -/
def Request.needsPages : Request → Bool
  | .read .. | .write .. => true
  | _ => false

def Request.isWrite : Request → Bool
  | .write .. => true
  | _ => false

def Request.isRead : Request → Bool
  | .read .. => true
  | _ => false

/-- First LBA of the requests that name blocks (05 R73); 0 for the others. -/
def Request.firstLba : Request → Nat
  | .read lba _ _ | .write lba _ _ | .verify lba _ _ | .reassign lba => lba.toNat
  | .format .. | .recal | .spin _ => 0

/-- Blocks the request names: count, 1 for REASSIGN, 0 for FORMAT, RECAL and SPIN (05 R73, R75). -/
def Request.blocks : Request → Nat
  | .read _ count _ | .write _ count _ | .verify _ count _ => count.toNat
  | .reassign _ => 1
  | .format .. | .recal | .spin _ => 0

/-- The verify flag of a WRITE or a FORMAT (05 R73). -/
def Request.verifyFlag : Request → Bool
  | .write _ _ flags | .format _ _ flags => flagVerify flags
  | _ => false

/-- Two requests conflict: their ranges share an LBA and one of them is a WRITE (05 R75). -/
def Request.conflicts (a b : Request) : Bool :=
  decide (max a.firstLba b.firstLba < min (a.firstLba + a.blocks) (b.firstLba + b.blocks)) &&
    (a.isWrite || b.isWrite)

/-! ## The tag table (05 R67) -/

/-- The record holding a tag. -/
def Queue.find (q : Queue) (tag : Tag) : Option Record := q.records.find? (·.tag == tag)

/-- A tag is in use while a record holding it is in the table (05 R67). -/
def Queue.inUse (q : Queue) (tag : Tag) : Bool := q.records.any (·.tag == tag)

/-- The table with the record of a tag changed by `f`. -/
def Queue.update (q : Queue) (tag : Tag) (f : Record → Record) : Queue :=
  { q with records := q.records.map fun r => if r.tag == tag then f r else r }

/-- The table without the record of a tag. -/
def Queue.remove (q : Queue) (tag : Tag) : Queue :=
  { q with records := q.records.filter fun r => !(r.tag == tag) }

/-- The state of a tag's record changes (05 R74). -/
def State.setReqState (s : State) (tag : Tag) (st : ReqState) : State :=
  s.setQueue (s.queue.update tag fun r => { r with state := st })

/-- A set of tags as the NOTICE carries it: bit t for tag t (09 R165). -/
def tagSet (tags : List Tag) : BitVec 256 :=
  tags.foldl (fun set t => set ||| (1#256 <<< t.toNat)) 0

/-! ## Pages (04 R54, R55) -/

def PageUse.owner? : PageUse → Option Tag
  | .free => none
  | .filling o _ | .full o _ | .sending o _ => some o

def PageUse.index? : PageUse → Option Nat
  | .free => none
  | .filling _ i | .full _ i | .sending _ i => some i

def PageUse.isFilling : PageUse → Bool
  | .filling .. => true
  | _ => false

/-- The state of page `p`; a page the part does not have reads as FREE. -/
def Buffer.useOf (b : Buffer) (p : Nat) : PageUse := ((b.pages[p]?).map (fun q => q.use)).getD .free

/-- The numbers of the FREE pages, lowest first. -/
def Buffer.freePages (b : Buffer) : List Nat :=
  (List.range b.pages.length).filter fun p => b.useOf p == .free

/-- The pages a tag owns (05 R73, pages). -/
def Buffer.ownedBy (b : Buffer) (tag : Tag) : List Nat :=
  (List.range b.pages.length).filter fun p => (b.useOf p).owner? == some tag

/-- The page a request owns with a block index (04 R60, R62). -/
def Buffer.pageOf (b : Buffer) (tag : Tag) (index : Nat) : Option Nat :=
  (b.ownedBy tag).find? fun p => (b.useOf p).index? == some index

/-- The data bytes of a page. -/
def Buffer.dataOf (b : Buffer) (p : Nat) : List Byte := ((b.pages[p]?).map (fun q => q.data)).getD []

/-- Page `p` changed by `f`. -/
def Buffer.setPage (b : Buffer) (p : Nat) (f : Page → Page) : Buffer :=
  { b with pages := modifyAt b.pages p f }

/-- A page takes another state. -/
def Buffer.setUse (b : Buffer) (p : Nat) (u : PageUse) : Buffer := b.setPage p fun q => { q with use := u }

/-- Every page of `tag` that `which` picks becomes FREE, owner and index cleared with it (04 R54, R63, R64). -/
def Buffer.release (b : Buffer) (tag : Tag) (which : PageUse → Bool) : Buffer :=
  { b with pages := b.pages.map fun q =>
      if q.use.owner? == some tag && which q.use then { q with use := .free } else q }

/-! ## Write-data records (04 R58) -/

def Buffer.writeOf (b : Buffer) (tag : Tag) : Option WriteData := b.writes.find? (·.tag == tag)

def Buffer.updateWrite (b : Buffer) (tag : Tag) (f : WriteData → WriteData) : Buffer :=
  { b with writes := b.writes.map fun w => if w.tag == tag then f w else w }

/-- A request leaves AWAIT_DATA: its write-data record is discarded and its data timer with it, and a CALL not
yet started is withdrawn (04 R58, R59, R65). -/
def State.leaveAwaitData (s : State) (tag : Tag) : State :=
  (s.setBuffer { s.buffer with writes := s.buffer.writes.filter fun w => !(w.tag == tag) }).setArb
    { s.arb with doneCall := s.arb.doneCall.filter fun f => !(f == .call tag) }

/-! ## Parameters in force -/

/-- The active device record. -/
def Tables.device? (t : Tables) : Option Device := t.active.map (·.device)

/-- The active zone table; no zone while UNCONFIGURED. -/
def Tables.zones (t : Tables) : List Zone := (t.active.map (·.zones)).getD []

/-- The active defect map; empty while UNCONFIGURED. -/
def Tables.map (t : Tables) : List Defect := (t.active.map (·.map)).getD []

/-- The active code table. -/
def Tables.code (t : Tables) : List Byte := (t.active.map (·.code)).getD []

/-- CONFIGURED (10 R171). -/
def Tables.configured (t : Tables) : Bool := t.active.isSome

/-- Capacity of the medium: the sum of the zones' data capacities (02 R29). -/
def Tables.capacity (t : Tables) : Nat := (t.zoneRecs.map (·.dataCapacity)).sum

/-- A device-record field, or the value used while UNCONFIGURED. -/
def Tables.param (t : Tables) (f : Device → Nat) (unconfigured : Nat) : Nat :=
  (t.device?.map f).getD unconfigured

/-- Spindle and positioner parameters with their unconfigured values (07 R134, 08 R149). -/
def Tables.startLevel (t : Tables) : Nat := t.param (·.startLevel) 128
def Tables.spinupS (t : Tables) : Nat := t.param (·.spinupS) 30
def Tables.retargetS (t : Tables) : Nat := t.param (·.retargetS) 10
def Tables.idleS (t : Tables) : Nat := t.param (·.idleS) 0
def Tables.stepMs (t : Tables) : Nat := t.param (·.stepMs) 20
def Tables.settleMs (t : Tables) : Nat := t.param (·.settleMs) 60

/-- The step limit of a recalibration: 2 × cylinders + 8, or 518 while UNCONFIGURED (08 R144). -/
def Tables.recalLimit (t : Tables) : Nat := t.param (fun d => 2 * d.cylinders + 8) 518

/-- event_resend_s; 0 while UNCONFIGURED (11 R193). -/
def Tables.eventResendS (t : Tables) : Nat := t.param (·.eventResendS) 0

/-- data_timeout_s (04 R59); no WRITE waits for data while UNCONFIGURED. -/
def Tables.dataTimeoutS (t : Tables) : Nat := t.param (·.dataTimeoutS) 0

/-- Retry budgets, hunt window and the flags the media engine reads (02 section 2.1). -/
def Tables.huntRevs (t : Tables) : Nat := t.param (·.huntRevs) 0
def Tables.readRetries (t : Tables) : Nat := t.param (·.readRetries) 0
def Tables.writeRetries (t : Tables) : Nat := t.param (·.writeRetries) 0
def Tables.spareLow (t : Tables) : Nat := t.param (·.spareLow) 0
def Tables.autoRealloc (t : Tables) : Bool := (t.device?.map (·.autoRealloc)).getD false
def Tables.verifyDefault (t : Tables) : Bool := (t.device?.map (·.verifyDefault)).getD false

/-- The cell time in ns of a cell_code (02 R24). -/
def cellNs (cellCode : Nat) : Nat :=
  match cellCode with
  | 0 => 2000
  | 1 => 1600
  | 2 => 1200
  | _ => 1000

/-- The cell time in force (02 R24). -/
def Tables.cellTime (t : Tables) : Nat := cellNs (t.param (·.cellCode) 0)

/-- The idle timer runs while no tag is in use, the spindle is LOCKED and idle_s is not 0 (07 R133). -/
def State.idleRunning (s : State) : Bool :=
  s.queue.records.isEmpty && s.spindle.state == .locked && s.tables.idleS != 0

end Sys2Proof.Machine
end

