-- ==== Sys2Proof/Machine/Operands.lean ====
section
/-!
DEFINITION. The layouts of the table entries (10 R187), read from and written to bytes, and the byte
sequence of the retained image (10 R182).
-/

namespace Sys2Proof.Machine

/-! ## Table ids (10 section 10.2) -/

def TableId.ofByte (b : Byte) : Option TableId :=
  match b.toNat with
  | 1 => some .device
  | 2 => some .zone
  | 3 => some .code
  | 4 => some .defect
  | _ => none

/-- Bytes of one entry. -/
def TableId.entrySize : TableId → Nat
  | .device => 16
  | .zone => 7
  | .code => 1
  | .defect => 6

/-- Entries a staging table can hold. -/
def TableId.capacity : TableId → Nat
  | .device => 1
  | .zone => 8
  | .code => 64
  | .defect => Config.mapCapacity

/-! ## DEVICE -/

def Device.ofBytes (e : List Byte) : Device :=
  let at' := fun i => (byteAt e i).toNat
  { cylinders := at' 0, cellCode := at' 1, stepMs := at' 2, settleMs := at' 3, spinupS := at' 4,
    retargetS := at' 5, idleS := at' 6, startLevel := at' 7, huntRevs := at' 8, readRetries := at' 9,
    writeRetries := at' 10, autoRealloc := (byteAt e 11).getLsbD 0, verifyDefault := (byteAt e 11).getLsbD 1,
    spareLow := at' 12, dataTimeoutS := at' 13, eventResendS := at' 14 }

def Device.bytes (d : Device) : List Byte :=
  [byte d.cylinders, byte d.cellCode, byte d.stepMs, byte d.settleMs, byte d.spinupS, byte d.retargetS,
   byte d.idleS, byte d.startLevel, byte d.huntRevs, byte d.readRetries, byte d.writeRetries,
   byte (d.autoRealloc.toNat + 2 * d.verifyDefault.toNat), byte d.spareLow, byte d.dataTimeoutS,
   byte d.eventResendS, 0]

/-! ## ZONE -/

def Zone.ofBytes (e : List Byte) : Zone :=
  { firstCyl := (byteAt e 0).toNat, cylCount := (byteAt e 1).toNat,
    rpm := (byteAt e 2).toNat * 256 + (byteAt e 3).toNat, spt := (byteAt e 4).toNat,
    gap3 := (byteAt e 5).toNat, spareCyl := (byteAt e 6).toNat % 8, writeLock := (byteAt e 6).getLsbD 7 }

def Zone.bytes (z : Zone) : List Byte :=
  [byte z.firstCyl, byte z.cylCount] ++ be16 z.rpm ++
  [byte z.spt, byte z.gap3, byte (z.spareCyl + 128 * z.writeLock.toNat)]

/-! ## DEFECT -/

def Origin.code : Origin → Byte
  | .loaded => 1
  | .grown => 2

/-- The origin of a byte that names one (01h LOADED, 02h GROWN). -/
def Origin.ofByte (b : Byte) : Origin := if b = 1 then .loaded else .grown

/-- An entry of kind 01h or 02h; any other kind is refused at LOAD_CLOSE (03 R39) and never gets here. -/
def Defect.ofBytes (e : List Byte) : Defect :=
  if byteAt e 0 = 1 then
    .remap (beNat [byteAt e 2, byteAt e 3, byteAt e 4]) (byteAt e 5).toNat (.ofByte (byteAt e 1))
  else
    .retire (byteAt e 2).toNat (byteAt e 5).toNat (.ofByte (byteAt e 1))

def Defect.bytes : Defect → List Byte
  | .remap lba slot origin => [1, origin.code] ++ be24 lba ++ [byte slot]
  | .retire zone slot origin => [2, origin.code, byte zone, 0, 0, byte slot]

/-! ## Active tables as entries (10 R186) -/

/-- The entries of an active table, in its layout. -/
def ActiveSet.entries (a : ActiveSet) : TableId → List (List Byte)
  | .device => [a.device.bytes]
  | .zone => a.zones.map Zone.bytes
  | .code => a.code.map fun b => [b]
  | .defect => a.map.map Defect.bytes

/-! ## The retained image (10 R182, R184) -/

/-- The sequence the check word covers, for a generation and an active set. -/
def imageBytes (generation : BitVec 16) (a : ActiveSet) : List Byte :=
  be16 generation.toNat ++ a.device.bytes ++
  [byte a.zones.length] ++ (a.zones.map Zone.bytes).flatten ++
  a.code ++ [byte a.map.length] ++ (a.map.map Defect.bytes).flatten

/-- The image of an active set with its matching check word (10 R183). -/
def imageOf (generation : BitVec 16) (a : ActiveSet) : RetainedImage :=
  .contents (imageBytes generation a) (crc32 (imageBytes generation a))

/-- The tables an image's sequence holds, as raw entries. -/
structure RawImage where
  generation : BitVec 16
  device : List (List Byte)
  zones : List (List Byte)
  code : List (List Byte)
  map : List (List Byte)
  deriving DecidableEq, Repr

/-- The raw tables of a sequence of the length its own counts call for (10 R182). -/
def parseImage (bs : List Byte) : Option RawImage :=
  let zc := (byteAt bs 18).toNat
  let codeAt := 19 + 7 * zc
  let dc := (byteAt bs (codeAt + 64)).toNat
  if bs.length = codeAt + 65 + 6 * dc then
    some { generation := BitVec.ofNat 16 (beNat (bs.take 2))
           device := [(bs.drop 2).take 16]
           zones := chunks 7 zc ((bs.drop 19).take (7 * zc))
           code := ((bs.drop codeAt).take 64).map fun b => [b]
           map := chunks 6 dc (bs.drop (codeAt + 65)) }
  else none

end Sys2Proof.Machine
end

