-- ==== Sys2Proof/Machine/Flags.lean ====
section
/-!
DEFINITION. The codes and bytes the part puts on HO: status, result, reason and event codes, the payload of
every frame kind (09 R162 to R165), and the QUERY status record (11 R196).
-/

namespace Sys2Proof.Machine

/-! ## Codes -/

/-- 05 R88. -/
def Status.code : Status → Byte
  | .ok => 0
  | .okRecovered => 1
  | .okReallocated => 2
  | .notConfigured => 16
  | .badField => 17
  | .lbaRange => 18
  | .writeProtected => 19
  | .aborted => 20
  | .dataTimeout => 21
  | .sectorNotFound => 32
  | .dataError => 33
  | .verifyFailed => 34
  | .seekFault => 35
  | .spinFault => 36
  | .sparesExhausted => 37
  | .mapFull => 38
  | .formatErrors => 39

/-- The statuses whose DONE names a first failing LBA (05 R88). -/
def Status.namesLba : Status → Bool
  | .dataError | .sectorNotFound | .verifyFailed | .sparesExhausted | .mapFull => true
  | _ => false

/-- 09 R163. -/
def Reason.code : Reason → Byte
  | .field => 1
  | .order => 2
  | .duplicate => 3
  | .tooFew => 4
  | .tooMany => 5
  | .geometry => 6
  | .budget => 7

/-- 11 R189. -/
def EventKind.code : EventKind → Nat
  | .spinLocked => 1
  | .spinLost => 2
  | .spinStopped => 3
  | .spinFault => 4
  | .wpAssert => 5
  | .wpRelease => 6
  | .positionFault => 7
  | .mapGrown => 8
  | .sparesLow => 9
  | .linkError => 10
  | .tablesCommitted => 11

/-- 09 R165. -/
def ResetKind.code : ResetKind → Byte
  | .power => 1
  | .resetLine => 2
  | .link => 3

/-- 09 R165, 11 R196. -/
def StartKind.code : StartKind → Byte
  | .warm => 1
  | .cold => 2

/-! ## Payloads -/

/-- 09 R162. -/
def DoneReport.payload (r : DoneReport) : List Byte :=
  [r.status.code, byte r.blocksDone, byte r.retriesUsed] ++
  ((r.firstFailing.map be24).getD []) ++ ((r.failing.map fun f => be32 f.toNat).getD [])

/-- 09 R163. -/
def ReplyBody.payload : ReplyBody → List Byte
  | .ok => [0x00]
  | .okTable generation total first entries =>
    [0x00] ++ be16 generation.toNat ++ [byte total, byte first, byte entries.length] ++ entries.flatten
  | .okStatus record => 0x00 :: record
  | .badTable => [0x01]
  | .sessionOpen => [0x02]
  | .noSession => [0x03]
  | .rejected r => [0x04, r.reason.code, byte r.index]
  | .queueBusy => [0x05]
  | .staleStage => [0x06]
  | .missingTable => [0x07]
  | .noSuchTag => [0x08]
  | .badSeq => [0x09]
  | .notConfigured => [0x0A]

/-- 09 R165: the tag field is a 256-bit big-endian number. -/
def Notice.payload (n : Notice) : List Byte :=
  [n.kind.code, n.start.code] ++ be16 n.generation.toNat ++ [byte n.credits] ++ beBytes 32 n.tags.toNat

/-- KIND, TAG and PAYLOAD of a frame (09 R157, R160, R162 to R165). -/
def OutFrame.parts : OutFrame → Byte × Byte × List Byte
  | .notice n => (0x80, 0, n.payload)
  | .call tag => (0x81, tag, [])
  | .done tag report => (0x82, tag, report.payload)
  | .reply r => (0x83, r.seq, r.body.payload)
  | .event seq kind count detail => (0x84, seq, [byte kind.code, byte count] ++ be24 detail.toNat)
  | .block tag index data _ => (0x90, tag, byte index :: data)

/-- The bytes of a frame on HO, SYNC to CRC (09 R154). -/
def OutFrame.bytes (f : OutFrame) : List Byte :=
  frameBytes f.parts.1 f.parts.2.1 f.parts.2.2

/-- The bits of a frame on HO, one a clock, its bytes back to back (09 R153). -/
def OutFrame.bits (f : OutFrame) : List Bool := f.bytes.flatMap laneByte

/-- HO_CLK runs while a frame is being sent (09 R153). -/
def Arbiter.hoClk (a : Arbiter) : Bool := a.ho.isSome

/-- HO_DAT at clock `n` of the frame being sent; 1 while there is none (09 R153, R168). -/
def Arbiter.hoDat (a : Arbiter) (n : Nat) : Bool :=
  match a.ho with
  | some f => f.bits.getD n true
  | none => true

/-! ## The QUERY status record (11 R196) -/

def SpinState.code : SpinState → Byte
  | .stopped => 1
  | .starting => 2
  | .locked => 3
  | .retargeting => 4
  | .lost => 5
  | .stopping => 6

def PosState.code : PosState → Byte
  | .unknown => 1
  | .idle _ => 2
  | .stepping .. => 3
  | .settling .. => 4
  | .recalibrating .. => 5

/-- The position field: the cylinder in IDLE, the target in STEPPING and SETTLING, else 255 (08 R151). -/
def PosState.position : PosState → Nat
  | .idle c => c
  | .stepping _ t | .settling t _ => t
  | .unknown | .recalibrating .. => 255

/-- round(60,000,000 / last period), saturating at 65535; 0 when there is none (07 R136). -/
def measuredRpm (lastPeriod : Nat) : Nat :=
  if lastPeriod = 0 then 0 else min 65535 ((2 * 60000000 + lastPeriod) / (2 * lastPeriod))

/-- The twelve counters in the order of the record (11 R196). -/
def State.counters (s : State) : List Counter :=
  [s.link.badCrc, s.link.badLength, s.link.overrun, s.queue.refused, s.buffer.discards, s.codec.addrErrors,
   s.codec.decodeFaults, s.engine.readRetries, s.engine.writeRetries, s.engine.reallocs, s.pos.seeks,
   s.pos.recals]

/-- The 48 bytes a QUERY reads (11 R196). -/
def statusRecord (s : State) : List Byte :=
  be16 0x0412 ++ [0x01, if s.tables.configured then 0x02 else 0x01, s.tables.start.code] ++
  be16 s.tables.generation.toNat ++ be16 s.tables.capacity ++ [s.spindle.state.code] ++
  be16 ((s.spindle.target.map (·.rpm)).getD 0) ++ be16 (measuredRpm s.spindle.lastPeriod) ++
  [byte s.spindle.level, s.pos.state.code, byte s.pos.state.position, if s.pins.wprot then 0x01 else 0x00,
   byte s.queue.records.length, byte s.queue.credits, byte s.buffer.freePages.length,
   byte s.events.queue.length] ++
  be16 s.events.mask.toNat ++ s.counters.flatMap fun c => be16 c.toNat

/-- QUERY with CLEAR: each of the twelve counters becomes 0 (11 R196). -/
def State.clearCounters (s : State) : State :=
  { s with
    link := { s.link with badCrc := 0, badLength := 0, overrun := 0 }
    queue := { s.queue with refused := 0 }
    buffer := { s.buffer with discards := 0 }
    codec := { s.codec with addrErrors := 0, decodeFaults := 0 }
    engine := { s.engine with readRetries := 0, writeRetries := 0, reallocs := 0 }
    pos := { s.pos with seeks := 0, recals := 0 } }

end Sys2Proof.Machine
end

