-- ==== Sys2Proof/Machine/Arbiter.lean ====
section
/-!
DEFINITION. What the output arbiter and the event unit do for every other block: choosing and starting a
frame (09 R166), producing REPLY, DONE and CALL frames, offering read pages, and raising events (11 R190,
R191).
-/

namespace Sys2Proof.Machine

/-! ## The arbiter's choice (09 R166) -/

/-- The lane carries `f` from now on. -/
def State.startFrame (s : State) (f : OutFrame) : State := s.setArb { s.arb with ho := some f }

/-- A frame of class 3 is started: it leaves the queue, and a CALL started for a write-data record whose CALL was
QUEUED makes it SENDING (04 R58). -/
def startDoneCall (f : DoneCall) (rest : List DoneCall) (s : State) : State :=
  match f with
  | .done tag report => s.setArb { s.arb with doneCall := rest, ho := some (.done tag report) }
  | .call tag =>
    (s.setArb { s.arb with doneCall := rest, ho := some (.call tag) }).setBuffer
      (s.buffer.updateWrite tag fun w => if w.call = .queued then { w with call := .sending } else w)

/-- A read page is started: its page goes from FULL to SENDING (04 R63). -/
def startBlock (p : Nat) (rest : List Nat) (s : State) : State :=
  match s.buffer.useOf p with
  | .full owner index =>
    (s.setArb { s.arb with blocks := rest, ho := some (.block owner index (s.buffer.dataOf p) p) }).setBuffer
      (s.buffer.setUse p (.sending owner index))
  | _ => s.setArb { s.arb with blocks := rest }

/-- The offered EVENT is started, composed from the head record as it stands (11 R191). -/
def startEvent (s : State) : State :=
  match s.events.outstanding, s.events.queue with
  | some ⟨seq, .offered⟩, r :: _ =>
    (s.startFrame (.event seq r.kind r.count r.detail)).setEvents
      { s.events with outstanding := some ⟨seq, .sending⟩ }
  | _, _ => s

/-- With the lane free and no reset asserted, the oldest frame of the lowest-numbered class that holds one is
started (09 R166, R168). -/
def arbitrate (s : State) : State :=
  if s.resetHeld || s.arb.ho.isSome then s
  else match s.arb.notice, s.arb.replies, s.arb.doneCall, s.arb.blocks with
    | some n, _, _, _ => s.startFrame (.notice n)
    | none, r :: _, _, _ => s.startFrame (.reply r)
    | none, [], f :: rest, _ => startDoneCall f rest s
    | none, [], [], p :: rest => startBlock p rest s
    | none, [], [], [] => startEvent s

/-- The frame on HO has gone; the arbiter chooses the next (09 R166). -/
def freeLane (s : State) : State := arbitrate (s.setArb { s.arb with ho := none })

/-! ## Frames produced by other blocks -/

/-- A REPLY joins the tail of the management reply queue (09 R158). -/
def produceReply (seq : Byte) (body : ReplyBody) (s : State) : State :=
  arbitrate (s.setArb { s.arb with replies := s.arb.replies ++ [⟨seq, body⟩] })

/-- A frame joins the tail of the outbound DONE/CALL queue (04 R58, 05 R89). -/
def produceDoneCall (f : DoneCall) (s : State) : State :=
  arbitrate (s.setArb { s.arb with doneCall := s.arb.doneCall ++ [f] })

/-- A FULL read page is offered (04 R62). -/
def offerBlock (p : Nat) (s : State) : State :=
  arbitrate (s.setArb { s.arb with blocks := s.arb.blocks ++ [p] })

/-! ## Events -/

/-- With nothing outstanding and a record queued, the head record gets the next sequence and its frame is offered
(11 R191). -/
def offerEvent (s : State) : State :=
  match s.events.outstanding, s.events.queue with
  | none, _ :: _ =>
    arbitrate (s.setEvents { s.events with
      sequence := s.events.sequence + 1
      outstanding := some ⟨s.events.sequence + 1, .offered⟩ })
  | _, _ => s

/-- A kind's bit of the mask: ENABLED (11 R189, R194). -/
def Events.enabled (e : Events) (k : EventKind) : Bool := e.mask.getLsbD (k.code - 1)

/-- The queue after a raise: the record of the kind counts one more, saturating at 255, or a new record joins the
tail (11 R190). -/
def coalesce (queue : List EventRecord) (k : EventKind) (detail : BitVec 24) : List EventRecord :=
  if queue.any (·.kind == k) then
    queue.map fun r => if r.kind == k then { r with count := min 255 (r.count + 1) } else r
  else queue ++ [⟨k, 1, detail⟩]

/-- A block raises an event (11 R190). -/
def raiseEvent (k : EventKind) (detail : BitVec 24) (s : State) : State :=
  if s.events.enabled k then
    offerEvent (s.setEvents { s.events with queue := coalesce s.events.queue k detail })
  else s

/-- A detail written as an unsigned number (09 R164). -/
def detailNat (n : Nat) : BitVec 24 := BitVec.ofNat 24 n

end Sys2Proof.Machine
end

