-- ==== Sys2Proof/Machine/BufferOps.lean ====
section
/-!
DEFINITION. The grant of pages (04 R57, R58), the acceptance of a BLOCK frame (04 R60, R61), and the production
of a DONE (05 R89, with 04 R64). Starting a selection afterwards is left to the command (05 R78).
-/

namespace Sys2Proof.Machine

/-! ## The grant (04 R57, R58) -/

/-- The lowest FREE pages become FILLING for `tag`, block index `next` upward, until `n` indexes are given (04 R57
step 3). -/
def assignFree (tag : Tag) (n : Nat) : Nat → List Page → List Page
  | _, [] => []
  | next, p :: ps =>
    if p.use = .free ∧ next < n then
      { p with use := .filling tag next } :: assignFree tag n (next + 1) ps
    else p :: assignFree tag n next ps

/-- The head of the page-wait FIFO gets its pages and leaves the FIFO (04 R57 step 3). -/
def takePages (tag : Tag) (n : Nat) (rest : List Tag) (s : State) : State :=
  s.setBuffer { s.buffer with pages := assignFree tag n 0 s.buffer.pages, fifo := rest }

/-- A READ granted pages becomes READY; any other kind, a WRITE, becomes AWAIT_DATA with a new write-data record
and its CALL produced (04 R58). -/
def afterGrant (r : Record) (s : State) : State :=
  match r.req.isRead with
  | true => s.setReqState r.tag .ready
  | false =>
    produceDoneCall (.call r.tag)
      ((s.setReqState r.tag .awaitData).setBuffer
        { s.buffer with writes := s.buffer.writes ++ [⟨r.tag, [], .queued, none⟩] })

/-- The grant decision, over at most `fuel` heads (04 R57). -/
def grantLoop : Nat → State → State
  | 0, s => s
  | fuel + 1, s =>
    match s.buffer.fifo with
    | [] => s
    | tag :: rest =>
      match s.queue.find tag with
      | none => s
      | some r =>
        if s.buffer.freePages.length < r.req.blocks then s
        else grantLoop fuel (afterGrant r (takePages tag r.req.blocks rest s))

/-- A grant decision (04 R57): each head granted leaves the FIFO, so its length bounds the repeats. -/
def grant (s : State) : State := grantLoop s.buffer.fifo.length s

/-! ## BLOCK frames from the host (04 R60, R61) -/

/-- Whether a BLOCK is accepted: its record in AWAIT_DATA, its index below the count and not yet received. -/
def blockAccepted (tag : Tag) (index : Nat) (s : State) : Bool :=
  match s.queue.find tag, s.buffer.writeOf tag with
  | some r, some w => r.state == .awaitData && decide (index < r.req.blocks) && !w.received.contains index
  | _, _ => false

/-- The data goes into the page and the index into the received set (04 R60). -/
def fillBlock (tag : Tag) (index : Nat) (data : List Byte) (s : State) : State :=
  let b := s.buffer.updateWrite tag fun w => { w with received := w.received ++ [index] }
  match s.buffer.pageOf tag index with
  | some p => s.setBuffer (b.setPage p fun _ => ⟨.full tag index, data⟩)
  | none => s.setBuffer b

/-- Every block of the WRITE has been received (04 R60). -/
def allReceived (tag : Tag) (s : State) : Bool :=
  match s.queue.find tag, s.buffer.writeOf tag with
  | some r, some w => w.received.length == r.req.blocks
  | _, _ => false

/-- A WRITE with all its blocks: timer stopped, a queued CALL withdrawn, READY (04 R60). -/
def writeReady (tag : Tag) (s : State) : State := (s.leaveAwaitData tag).setReqState tag .ready

/-- A discarded BLOCK is counted and changes nothing else (04 R61). -/
def discardBlock (s : State) : State :=
  s.setBuffer { s.buffer with discards := bump s.buffer.discards }

/-! ## DONE (05 R88, R89) -/

/-- The record leaves, its credit returns and its DONE counts as unsent (05 R89 effects 1 to 3). -/
def Queue.complete (q : Queue) (tag : Tag) : Queue :=
  { q.remove tag with credits := q.credits + 1, unsent := q.unsent ++ [tag] }

/-- The operation record is discarded when it is the operation of `tag` (05 R89 effect 5). -/
def Engine.dropOp (e : Engine) (tag : Tag) : Engine :=
  match e.op with
  | some op => if op.tag = tag then { e with op := none } else e
  | none => e

/-- A DONE is produced (05 R89): effects 1 to 3, the pages freed and a grant decision made (effect 4, 04 R64), the
engine IDLE if the request was ACTIVE (effect 5). The idle timer (effect 6) is derived from State. -/
def produceDone (tag : Tag) (report : DoneReport) (s : State) : State :=
  let s1 := produceDoneCall (.done tag report) s
  let s2 := s1.setQueue (s1.queue.complete tag)
  let s3 := grant (s2.setBuffer (s2.buffer.release tag fun _ => true))
  s3.setEngine (s3.engine.dropOp tag)

/-- The report of a request ended with nothing done: by its acceptance checks, or from a waiting state (05 R70,
R84; 04 R59). -/
def endedEarly (status : Status) : DoneReport := ⟨status, 0, 0, none, none⟩

end Sys2Proof.Machine
end

