-- ==== Sys2Proof/Machine/Translate.lean ====
section
/-!
DEFINITION. Zones, derived zone records and block addressing (02 R28 to R33). The translator's questions
are answered from the active tables as they stand; outside the domains the rules give (an LBA at or above
capacity, a cylinder no zone holds) the functions fall back on zone 0 or an all-zero zone, and are never asked (log entry 27).
-/

namespace Sys2Proof.Machine

/-! ## Derived zone records (02 R28) -/

/-- A zone's last cylinder (02 section 2.2). -/
def Zone.lastCyl (z : Zone) : Nat := z.firstCyl + z.cylCount - 1

def Zone.dataCapacity (z : Zone) : Nat := (z.cylCount - z.spareCyl) * 2 * z.spt

def Zone.spareSlots (z : Zone) : Nat := z.spareCyl * 2 * z.spt

/-- The records of the zones from one whose first LBA is `first` upward (02 R28). -/
def deriveFrom : Nat → List Zone → List ZoneRec
  | _, [] => []
  | first, z :: zs =>
    { firstLba := first, dataCapacity := z.dataCapacity, spareSlots := z.spareSlots,
      firstSpareCyl := z.firstCyl + z.cylCount - z.spareCyl, lastCyl := z.lastCyl } ::
    deriveFrom (first + z.dataCapacity) zs

/-- 02 R28. -/
def deriveZones (zs : List Zone) : List ZoneRec := deriveFrom 0 zs

/-! ## Lookups -/

/-- An all-zero zone and record, read where a zone number names none. -/
def Zone.none : Zone := ⟨0, 0, 0, 0, 0, 0, false⟩
def ZoneRec.none : ZoneRec := ⟨0, 0, 0, 0, 0⟩

def Tables.zoneAt (t : Tables) (z : Nat) : Zone := t.zones.getD z .none
def Tables.recAt (t : Tables) (z : Nat) : ZoneRec := t.zoneRecs.getD z .none

/-- The zone whose LBA range contains `n` (02 R31, zone step), among derived records. -/
def zoneOfLba (recs : List ZoneRec) (n : Nat) : Option Nat :=
  recs.findIdx? fun r => decide (r.firstLba ≤ n ∧ n < r.firstLba + r.dataCapacity)

/-- The zone whose cylinder range contains `c` (02 R30). -/
def Tables.zoneOfCyl (t : Tables) (c : Nat) : Option Nat :=
  t.zones.findIdx? fun z => decide (z.firstCyl ≤ c ∧ c ≤ z.lastCyl)

/-- A cylinder, head and sector. -/
structure Location where
  cylinder : Nat
  head : Nat
  sector : Nat
  deriving DecidableEq, Repr

/-- The `n`-th sector of a run of cylinders from `first`, head 0 then head 1 of each (02 R31, R32). -/
def locate (first spt n : Nat) : Location :=
  ⟨first + n / spt / 2, n / spt % 2, n % spt⟩

/-- The zone an LBA lies in. -/
def Tables.lbaZone (t : Tables) (n : Nat) : Nat := (zoneOfLba t.zoneRecs n).getD 0

/-- The home location of an LBA (02 R31). -/
def Tables.homeLocation (t : Tables) (n : Nat) : Location :=
  locate (t.zoneAt (t.lbaZone n)).firstCyl (t.zoneAt (t.lbaZone n)).spt (n - (t.recAt (t.lbaZone n)).firstLba)

/-- The location of a spare slot of a zone (02 R32). -/
def Tables.slotLocation (t : Tables) (zone slot : Nat) : Location :=
  locate (t.recAt zone).firstSpareCyl (t.zoneAt zone).spt slot

/-- The slot a REMAP entry of the map names for an LBA (02 R33 step 2). -/
def remapSlot (map : List Defect) (n : Nat) : Option Nat :=
  map.findSome? fun d =>
    match d with
    | .remap lba slot _ => if lba = n then some slot else none
    | .retire .. => none

/-- The placement of an LBA (02 R33). -/
def Tables.placement (t : Tables) (n : Nat) : Placement :=
  let zone := t.lbaZone n
  let slot := remapSlot t.map n
  let at' := match slot with
    | some s => t.slotLocation zone s
    | none => t.homeLocation n
  { lba := n, zone := zone, cylinder := at'.cylinder, head := at'.head, sector := at'.sector
    source := match slot with
      | some s => .spare s
      | none => .home
    writeLock := (t.zoneAt zone).writeLock, rpm := (t.zoneAt zone).rpm }

end Sys2Proof.Machine
end

