-- ==== Sys2Proof/Machine/Validate.lean ====
section
/-!
DEFINITION. The checks a table passes: alone at LOAD_CLOSE (02 R23, R25, R26; 03 R39; 10 R176) and together
at COMMIT and at a start (02 R27; 03 R40). Each answers the first failing check, or none.
-/

namespace Sys2Proof.Machine

/-- `lo ≤ n ≤ hi`. -/
def within (lo n hi : Nat) : Bool := decide (lo ≤ n ∧ n ≤ hi)

/-! ## Recorded bytes (01 R1, R2) -/

/-- No three consecutive zero bits in a byte. -/
def noZeroRun (b : Byte) : Bool :=
  (List.range 6).all fun i => b.getLsbD i || b.getLsbD (i + 1) || b.getLsbD (i + 2)

/-- A byte is recordable (01 R1). -/
def recordable (b : Byte) : Bool := b.getLsbD 7 && noZeroRun b

/-- The reserved values (01 R2). -/
def fillByte : Byte := 0xFF
def markA : Byte := 0xE6
def markB : Byte := 0xB3
def addrId : Byte := 0x9D
def dataId : Byte := 0xCB
def trailer : Byte := 0xEB

def reservedBytes : List Byte := [fillByte, markA, markB, addrId, dataId, trailer]

/-- A value the code table may hold: recordable and not reserved (01 R2, R3). -/
def codeByteOk (b : Byte) : Bool := recordable b && !reservedBytes.contains b

/-! ## Alone: LOAD_CLOSE -/

/-- Ranges, flags and last byte of a device record (02 R23). -/
def deviceEntryOk (e : List Byte) : Bool :=
  let d := Device.ofBytes e
  within 40 d.cylinders 255 && within 0 d.cellCode 3 && within 2 d.stepMs 20 && within 5 d.settleMs 60 &&
  within 1 d.spinupS 30 && within 1 d.retargetS 10 && within 32 d.startLevel 255 && within 1 d.huntRevs 4 &&
  within 0 d.readRetries 15 && within 0 d.writeRetries 7 && (byteAt e 11 &&& 0xFC == 0) &&
  within 1 d.dataTimeoutS 60 && within 0 d.eventResendS 60 && byteAt e 15 == 0

/-- 02 R23. -/
def checkDevice (es : List (List Byte)) : Option Rejection :=
  match es with
  | [] => some ⟨.tooFew, 0⟩
  | e :: _ => if deviceEntryOk e then none else some ⟨.field, 0⟩

/-- One zone entry alone (02 R25). -/
def zoneEntryOk (e : List Byte) : Bool :=
  let z := Zone.ofBytes e
  within 0 z.firstCyl 254 && within 2 z.cylCount 255 && within 600 z.rpm 2400 && within 4 z.spt 32 &&
  within 8 z.gap3 64 && within 0 z.spareCyl 4 && (byteAt e 6 &&& 0x78 == 0) &&
  decide (z.spareCyl < z.cylCount) && decide (z.lastCyl ≤ 254)

/-- A zone entry against the one before it (02 R26). -/
def zoneFollows (prev : Option Zone) (z : Zone) : Bool :=
  match prev with
  | none => z.firstCyl == 0
  | some p => z.firstCyl == p.lastCyl + 1 && decide (p.rpm ≤ z.rpm)

/-- 02 R25 then R26 for each entry, in index order. -/
def checkZonesFrom : Nat → Option Zone → List (List Byte) → Option Rejection
  | _, _, [] => none
  | i, prev, e :: es =>
    if !zoneEntryOk e then some ⟨.field, i⟩
    else if !zoneFollows prev (.ofBytes e) then some ⟨.order, i⟩
    else checkZonesFrom (i + 1) (some (.ofBytes e)) es

/-- 02 R25, R26. -/
def checkZones (es : List (List Byte)) : Option Rejection :=
  if es.isEmpty then some ⟨.tooFew, 0⟩ else checkZonesFrom 0 none es

/-- Allowed value, then distinct from every lower index (10 R176). -/
def checkCodeFrom : Nat → List Byte → List Byte → Option Rejection
  | _, _, [] => none
  | i, seen, b :: bs =>
    if !codeByteOk b then some ⟨.field, i⟩
    else if seen.contains b then some ⟨.duplicate, i⟩
    else checkCodeFrom (i + 1) (b :: seen) bs

/-- 10 R176. -/
def checkCode (es : List (List Byte)) : Option Rejection :=
  if es.length < 64 then some ⟨.tooFew, es.length⟩ else checkCodeFrom 0 [] (es.map (byteAt · 0))

/-- Kind, origin and ranges of a defect entry (03 R39 check 1). -/
def defectEntryOk (e : List Byte) : Bool :=
  (byteAt e 1 == 1 || byteAt e 1 == 2) &&
  ((byteAt e 0 == 1 && decide (beNat [byteAt e 2, byteAt e 3, byteAt e 4] ≤ 16319)) ||
   (byteAt e 0 == 2 && decide ((byteAt e 2).toNat ≤ 7) && byteAt e 3 == 0 && byteAt e 4 == 0))

/-- The order of the map: REMAP entries by lba, then RETIRE entries by zone and slot (03 R41). -/
def Defect.before : Defect → Defect → Bool
  | .remap a _ _, .remap b _ _ => decide (a < b)
  | .remap .., .retire .. => true
  | .retire .., .remap .. => false
  | .retire za sa _, .retire zb sb _ => decide (za < zb ∨ za = zb ∧ sa < sb)

/-- The same lba, or the same zone and slot (03 R39 check 3). -/
def Defect.sameKey : Defect → Defect → Bool
  | .remap a _ _, .remap b _ _ => a == b
  | .retire za sa _, .retire zb sb _ => za == zb && sa == sb
  | _, _ => false

/-- A defect entry against its predecessor (03 R39 checks 2 and 3). -/
def defectFollows (prev : Option Defect) (d : Defect) : Option Reason :=
  match prev with
  | none => none
  | some p => if p.sameKey d then some .duplicate else if p.before d then none else some .order

def checkDefectsFrom : Nat → Option Defect → List (List Byte) → Option Rejection
  | _, _, [] => none
  | i, prev, e :: es =>
    if !defectEntryOk e then some ⟨.field, i⟩
    else match defectFollows prev (.ofBytes e) with
      | some r => some ⟨r, i⟩
      | none => checkDefectsFrom (i + 1) (some (.ofBytes e)) es

/-- 03 R39. -/
def checkDefects (es : List (List Byte)) : Option Rejection := checkDefectsFrom 0 none es

/-- A staged table judged on its own (10 R175). -/
def checkTable : TableId → List (List Byte) → Option Rejection
  | .device => checkDevice
  | .zone => checkZones
  | .code => checkCode
  | .defect => checkDefects

/-! ## Together: COMMIT -/

/-- Bytes a revolution holds at a zone's speed (01 R19). -/
def bytesPerRev (rpm cell : Nat) : Nat := 60000000000 / (rpm * 8 * cell)

/-- 01 R19. -/
def trackBudget (rpm cell : Nat) : Nat := bytesPerRev rpm cell * 97 / 100

/-- Recorded bytes of one sector (01 R9). -/
def Zone.sectorBytes (z : Zone) : Nat := 716 + z.gap3

/-- 01 R19. -/
def Zone.feasible (z : Zone) (cell : Nat) : Bool := decide (z.spt * z.sectorBytes ≤ trackBudget z.rpm cell)

/-- The first zone that does not fit its budget (02 R27 check 2). -/
def checkBudget (cell : Nat) : Nat → List Zone → Option Rejection
  | _, [] => none
  | i, z :: zs => if z.feasible cell then checkBudget cell (i + 1) zs else some ⟨.budget, i⟩

/-- 02 R27. -/
def checkGeometry (d : Device) (zs : List Zone) : Option Rejection :=
  if (zs.getLast?.map Zone.lastCyl) ≠ some (d.cylinders - 1) then some ⟨.geometry, zs.length - 1⟩
  else checkBudget (cellNs d.cellCode) 0 zs

/-- The zone and slot a defect entry names, where the zones have them (03 R38, R40 checks 1 and 2). -/
def Defect.place? (recs : List ZoneRec) (d : Defect) : Option (Nat × Nat) :=
  let named := match d with
    | .remap lba slot _ => (zoneOfLba recs lba).map fun z => (z, slot)
    | .retire zone slot _ => some (zone, slot)
  match named with
  | some (zone, slot) => if slot < (recs.getD zone .none).spareSlots then some (zone, slot) else none
  | none => none

/-- 03 R40; `seen` holds the zones and slots the earlier entries name. -/
def checkMapFrom (recs : List ZoneRec) : Nat → List (Nat × Nat) → List Defect → Option Rejection
  | _, _, [] => none
  | i, seen, d :: ds =>
    match d.place? recs with
    | none => some ⟨.geometry, i⟩
    | some k => if seen.contains k then some ⟨.duplicate, i⟩ else checkMapFrom recs (i + 1) (k :: seen) ds

/-- The checks of a whole set across its tables (10 R179): coverage and budget, then the map. -/
def checkSet (a : ActiveSet) : Option Rejection :=
  (checkGeometry a.device a.zones).or (checkMapFrom (deriveZones a.zones) 0 [] a.map)

end Sys2Proof.Machine
end

