-- ==== Sys2Proof/Machine/Codec.lean ====
section
/-!
DEFINITION. The channel codec: group packing and field layouts (01 R4 to R9), framing and decoding (01 R5,
R11 to R14), the gate checks (01 R15), track writes (01 R18), and how each mode meets the engine's commands,
lock loss, WPROT and the resets (01 R10, R20, R22).
-/

namespace Sys2Proof.Machine

/-! ## Writing: groups and fields (01 R4, R7 to R9) -/

/-- The 6-bit groups of a payload, the last one completed with zero bits (01 R4 steps 1 to 3). -/
def packGroups (payload : List Byte) : List Nat :=
  (chunks 6 (payload.length * 8) (toBits payload)).map fun g => bitsNat g * 2 ^ (6 - g.length)

/-- The code bytes of a payload under a code table (01 R4 step 4). -/
def codeBytes (code payload : List Byte) : List Byte := (packGroups payload).map fun g => code.getD g 0

/-- The bytes of an address payload that its check covers (01 R6, R7). -/
def SectorId.covered (i : SectorId) : List Byte := [byte i.cylinder, byte i.head, byte i.sector, byte i.zone]

/-- The 12 recorded bytes of an address field (01 R7). -/
def addressField (code : List Byte) (i : SectorId) : List Byte :=
  [markA, markB, addrId] ++ codeBytes code (i.covered ++ be16 (crc16 i.covered)) ++ [trailer]

/-- The 690 recorded bytes of a data field (01 R8). -/
def dataField (code data : List Byte) : List Byte :=
  [markA, markB, dataId] ++ codeBytes code (data ++ be16 (crc16 data)) ++ [trailer]

/-- 512 zero bytes (01 R8, 03 R45). -/
def zeroBlock : List Byte := List.replicate Config.pageBytes 0

/-- One sector of a track write, gap 1 to gap 3 (01 R9, R18). -/
def sectorRecord (code : List Byte) (gap3 : Nat) (i : SectorId) : List Byte :=
  List.replicate 8 fillByte ++ addressField code i ++ List.replicate 6 fillByte ++
  dataField code zeroBlock ++ List.replicate gap3 fillByte

/-- The sectors of a track write in recorded order (01 R9, R18 step 1). -/
def trackRecord (code : List Byte) (z : Zone) (cylinder head zone : Nat) : List Byte :=
  (List.range z.spt).flatMap fun s => sectorRecord code z.gap3 ⟨cylinder, head, s, zone⟩

/-- The first `n` bytes of a track from where its write began: the sectors, then FILL (01 R9, R18 step 2). -/
def fillTo (n : Nat) (bytes : List Byte) : List Byte := bytes ++ List.replicate (n - bytes.length) fillByte

/-- Recorded bytes that pass in a time (01 R9). -/
def bytesIn (ns cell : Nat) : Nat := ns / (8 * cell)

/-- Nanoseconds from the start pulse to the last bit of the last sector's data TRAILER (01 R9, R18). -/
def trackNeedNs (z : Zone) (cell : Nat) : Nat := (z.spt * z.sectorBytes - z.gap3) * 8 * cell

/-! ## Reading: bits, framing and decoding (01 R5, R11 to R14) -/

/-- Three mark bytes as one 24-bit pattern (01 R2). -/
def markPattern (id : Byte) : BitVec 24 := markA ++ markB ++ id

/-- One more bit enters the match window (01 R11). -/
def shiftWindow (window : BitVec 24) (b : Bool) : BitVec 24 := window <<< 1 ||| BitVec.ofNat 24 b.toNat

/-- A field whose mark has just matched: the next bit begins its first code byte (01 R11 steps 1 and 2). -/
def OpenField.start : OpenField := ⟨[], 0, [], [], 0xFFFF⟩

/-- The running check takes one byte (01 R6). -/
def crcByte (crc : BitVec 16) (v : Byte) : BitVec 16 := BitVec.ofNat 16 (crc16From crc.toNat [v])

/-- A payload byte has been assembled; the check covers the first `covered` of them (01 R5, R6). -/
def OpenField.takeByte (covered : Nat) (v : Byte) (f : OpenField) : OpenField :=
  { f with
    payload := f.payload ++ [v]
    crc := if f.payload.length < covered then crcByte f.crc v else f.crc }

/-- A group has been decoded: its bits join the assembler, which gives a byte whenever it holds eight (01 R5). -/
def OpenField.takeGroup (covered g : Nat) (f : OpenField) : OpenField :=
  let bits := f.assembler ++ natBits 6 g
  if bits.length < 8 then { f with count := f.count + 1, assembler := bits }
  else
    OpenField.takeByte covered (byte (bitsNat (bits.take 8)))
      { f with count := f.count + 1, assembler := bits.drop 8 }

/-- What one more bit of a field leads to: the field goes on, a decode fault, or its TRAILER (01 R13). -/
inductive FieldStep where
  | more (f : OpenField)
  | fault
  | trailer
  deriving DecidableEq, Repr

/-- A framed byte: one of `codes` code bytes through the inverse table, then TRAILER; anything else is a decode fault
(01 R13). -/
def OpenField.framed (inverse : List (Option Nat)) (codes covered : Nat) (v : Byte) (f : OpenField) : FieldStep :=
  if f.count < codes then
    match inverse.getD v.toNat none with
    | some g => .more (f.takeGroup covered g)
    | none => .fault
  else if v = trailer then .trailer else .fault

/-- One bit of a field. A byte begins at a 1 bit and takes seven more; a 0 there is a slip, which is a decode fault (01
R12, R13; log entry 12). -/
def OpenField.bit (inverse : List (Option Nat)) (codes covered : Nat) (b : Bool) (f : OpenField) : FieldStep :=
  if f.framer = [] ∧ b = false then .fault
  else if f.framer.length < 7 then .more { f with framer := f.framer ++ [b] }
  else OpenField.framed inverse codes covered (byte (bitsNat (f.framer ++ [b]))) { f with framer := [] }

/-- The check of a field: the running check over the covered bytes against the check bytes after them (01 R6). -/
def OpenField.checkGood (covered : Nat) (f : OpenField) : Bool :=
  decide (f.crc.toNat = beNat ((f.payload.drop covered).take 2))

/-- The mark search of one bit: a matching window opens a field (01 R11 step 1, R14 step 1). -/
def Reader.search (mark : BitVec 24) (b : Bool) (r : Reader) : Reader :=
  if shiftWindow r.window b = mark then ⟨0, 0, some .start⟩
  else { r with window := shiftWindow r.window b }

/-- What HUNT makes of the bits it is given: it goes on, or the first address field among them has ended (01 R11). -/
inductive AddressRead where
  | more (r : Reader)
  | fault
  | badCheck
  | good (id : SectorId)
  deriving DecidableEq, Repr

/-- The sector an address payload names (01 R7). -/
def SectorId.ofPayload (p : List Byte) : SectorId :=
  ⟨(byteAt p 0).toNat, (byteAt p 1).toNat, (byteAt p 2).toNat, (byteAt p 3).toNat⟩

/-- HUNT over the bits of RDATA: 8 code bytes, the check over 4 payload bytes (01 R11). A field that has ended ends the
command. -/
def readAddress (inverse : List (Option Nat)) : Reader → List Bool → AddressRead
  | r, [] => .more r
  | r, b :: bs =>
    match r.field with
    | none => readAddress inverse (Reader.search (markPattern addrId) b r) bs
    | some f =>
      match OpenField.bit inverse 8 4 b f with
      | .more f' => readAddress inverse { r with field := some f' } bs
      | .fault => .fault
      | .trailer => if f.checkGood 4 then .good (.ofPayload f.payload) else .badCheck

/-- The outcome of a data field read (01 R14); ABANDONED is a report of its own. -/
inductive DataOutcome where
  | good
  | miscompare
  | crcMismatch
  | decodeFault
  deriving DecidableEq, Repr

/-- What DATA_READ makes of the bits it is given: it goes on, no data mark has come in time, or the field has ended with
the data bytes decoded and, at its TRAILER, whether the CRC matches (01 R14). -/
inductive DataRead where
  | more (r : Reader)
  | noMark
  | fault (data : List Byte)
  | whole (data : List Byte) (crcOk : Bool)
  deriving DecidableEq, Repr

/-- Bits within which a data mark must be complete: 16 byte times (01 R14 step 1). -/
def markWindowBits : Nat := 128

/-- The data bytes among a field's payload (01 R8). -/
def OpenField.data (f : OpenField) : List Byte := f.payload.take Config.pageBytes

/-- DATA_READ over the bits of RDATA: the mark search, then 686 code bytes, the CRC over 512 payload bytes (01 R14). -/
def readData (inverse : List (Option Nat)) : Reader → List Bool → DataRead
  | r, [] => .more r
  | r, b :: bs =>
    match r.field with
    | none =>
      let r' := Reader.search (markPattern dataId) b { r with searched := r.searched + 1 }
      if r'.searched < markWindowBits then readData inverse r' bs else .noMark
    | some f =>
      match OpenField.bit inverse 686 Config.pageBytes b f with
      | .more f' => readData inverse { r with field := some f' } bs
      | .fault => .fault f.data
      | .trailer => .whole f.data (f.checkGood Config.pageBytes)

/-! ## The gate (01 R15, R20) -/

/-- Why the gate was refused or dropped (01 R15, R18). -/
inductive GateCause where
  | lock
  | wprot
  | writeLock
  | position
  | overrun
  deriving DecidableEq, Repr

/-- The codec's reports other than ADDRESS_SEEN (01 R10, R14, R16, R18). -/
inductive CodecReport where
  | read (outcome : DataOutcome)
  | written
  | trackDone
  | refused (cause : GateCause)
  | torn (cause : GateCause)
  | abandoned
  deriving DecidableEq, Repr

/-- The spindle is LOCKED at the speed of a zone (01 R15). -/
def State.lockedAt (s : State) (rpm : Nat) : Bool :=
  s.spindle.state == .locked && (s.spindle.target.map (·.rpm)) == some rpm

/-- The first gate condition that fails, in the order 01 R15 lists the causes; `track` is the cylinder of a track
write (log entry 17). -/
def gateRefusal (s : State) (zone : Nat) (track : Option Nat) : Option GateCause :=
  if !(decide (zone < s.tables.zones.length) && s.lockedAt (s.tables.zoneAt zone).rpm) then some .lock
  else if s.pins.wprot then some .wprot
  else if (s.tables.zoneAt zone).writeLock then some .writeLock
  else match track with
    | some c => if s.pos.state = .idle c then none else some .position
    | none => none

/-- WGATE (01 R15, R17). -/
def Codec.wgate (c : Codec) : Bool :=
  match c.mode with
  | .dataWrite _ _ (.sending ..) => true
  | .trackWrite _ _ _ (.running ..) => true
  | _ => false

/-- Byte `n` of the write in progress, counted from the rise of the gate: the recorded bytes, then FILL, which a track
write sends until its 32nd pulse (01 R16, R18). -/
def Codec.sentByte (c : Codec) (n : Nat) : Byte := c.wdata.getD n fillByte

/-- The level of WDATA in cell `n` since the gate rose, each byte most significant bit first; 1 while the gate is off
(01 R17). -/
def Codec.wdataLevel (c : Codec) (n : Nat) : Bool :=
  if c.wgate then (byteBits (c.sentByte (n / 8))).getD (n % 8) true else true

/-- The codec enters IDLE: nothing in flight, match window and framer cleared, the gate off and WDATA held at 1 (01 R10,
R17, R22). -/
def Codec.toIdle (c : Codec) : Codec := { c with mode := .idle, stopHeld := false, reader := .clear, wdata := [] }

def State.codecIdle (s : State) : State := s.setCodec s.codec.toIdle

/-- ARM, taken in IDLE and in HUNT, where the hunt continues with its window (01 R10). -/
def codecArm (target : SectorId) (action : Action) (s : State) : State :=
  match s.codec.mode with
  | .idle =>
    s.setCodec { s.codec with
      mode := .hunt target action, stopHeld := false, head := target.head, reader := .clear }
  | .hunt .. => s.setCodec { s.codec with mode := .hunt target action, stopHeld := false, head := target.head }
  | .dataRead .. | .dataWrite .. | .trackWrite .. => s

/-- TRACK_WRITE, taken in IDLE (01 R10, R18). -/
def codecTrackWrite (cylinder head zone : Nat) (s : State) : State :=
  match s.codec.mode with
  | .idle =>
    s.setCodec { s.codec with mode := .trackWrite cylinder head zone .waiting, stopHeld := false, head := head }
  | .hunt .. | .dataRead .. | .dataWrite .. | .trackWrite .. => s

/-- STOP: HUNT returns to IDLE with no report; a field or track in progress holds it; IDLE ignores it (01 R10,
R20). -/
def codecStop (s : State) : State :=
  match s.codec.mode with
  | .idle => s
  | .hunt .. => s.codecIdle
  | .dataRead .. | .dataWrite .. | .trackWrite .. => s.setCodec { s.codec with stopHeld := true }

/-- What the spindle leaving LOCKED makes the codec report (01 R20); it enters IDLE with any of these. -/
def Codec.lockLossReport (c : Codec) : Option CodecReport :=
  match c.mode with
  | .idle => none
  | .hunt .. | .dataRead .. => some .abandoned
  | .dataWrite .. | .trackWrite .. => some (if c.wgate then .torn .lock else .abandoned)

/-- What WPROT becoming active makes the codec report: a raised gate drops (01 R20). -/
def Codec.wprotReport (c : Codec) : Option CodecReport := if c.wgate then some (.torn .wprot) else none

/-- The data bytes a write sends or a COMPARE checks against. -/
def State.refData (s : State) : DataRef → List Byte
  | .page p => s.buffer.dataOf p
  | .zeros => zeroBlock

/-- Counters of 01 R21. -/
def State.countAddrError (s : State) : State :=
  s.setCodec { s.codec with addrErrors := bump s.codec.addrErrors }

def State.countDecodeFault (s : State) : State :=
  s.setCodec { s.codec with decodeFaults := bump s.codec.decodeFaults }

/-- Data bytes of a sector write that have entered the check when `n` of its 690 bytes are sent: those of the groups
recorded so far (01 R4, R6, R8). -/
def coveredBy (n : Nat) : Nat := min Config.pageBytes ((6 * (n - 3) + 7) / 8)

/-- The running CRC of a sector write from `n` bytes sent to `m` (01 R6, R10). -/
def writeCrc (data : List Byte) (n m : Nat) (crc : BitVec 16) : BitVec 16 :=
  BitVec.ofNat 16 (crc16From crc.toNat ((data.drop (coveredBy n)).take (coveredBy m - coveredBy n)))

/-- The decoded bytes over the start of a page's data (01 R14 step 3). -/
def storeDecoded (page : Nat) (data : List Byte) (s : State) : State :=
  s.setBuffer (s.buffer.setPage page fun q => { q with data := data ++ q.data.drop data.length })

/-- The outcome of a field read whole, for an armed action (01 R14). -/
def wholeOutcome (s : State) (action : Action) (data : List Byte) (crcOk : Bool) : DataOutcome :=
  if !crcOk then .crcMismatch
  else match action with
    | .compare ref => if data = s.refData ref then .good else .miscompare
    | _ => .good

end Sys2Proof.Machine
end

