-- ==== Sys2Proof/Machine/PositionerOps.lean ====
section
/-!
DEFINITION. The head positioner: phases and steps (08 R138, R139), seeks and recalibrations as they are asked
for and as their timers expire (08 R141 to R147), and fault reports (08 R148). What the engine does with its
reports is in PositionerCommands.lean.
-/

namespace Sys2Proof.Machine

/-- The cylinder the scheduler and SPIN UP read (05 R79, 08 R140). -/
def PosState.currentCylinder : PosState → Nat
  | .idle c => c
  | .stepping _ t | .settling t _ => t
  | .unknown | .recalibrating .. => 0

/-- The position is known (08 R140). -/
def PosState.known : PosState → Bool
  | .idle _ | .stepping .. | .settling .. => true
  | .unknown | .recalibrating .. => false

/-- The positioner is in a movement (08 R140). -/
def PosState.moving : PosState → Bool
  | .stepping .. | .settling .. | .recalibrating .. => true
  | .unknown | .idle _ => false

/-- One inward step: the next phase is energised (08 R138). -/
def Positioner.phaseIn (p : Positioner) : Positioner := { p with phase := p.phase + 1, energised := true }

/-- One outward step (08 R138). -/
def Positioner.phaseOut (p : Positioner) : Positioner := { p with phase := p.phase - 1, energised := true }

/-- One step from step position `x` toward cylinder `target`, and the step timer started (08 R139, R142). -/
def Positioner.stepToward (ms x target : Nat) (p : Positioner) : Positioner :=
  if x < 2 * target then { p.phaseIn with state := .stepping (x + 1) target, stepTimer := some ms }
  else { p.phaseOut with state := .stepping (x - 1) target, stepTimer := some ms }

/-- A seek begins from IDLE at `c` (08 R141). -/
def Positioner.beginSeek (ms c target : Nat) (p : Positioner) : Positioner :=
  { p.stepToward ms (2 * c) target with seeks := bump p.seeks }

/-- A recalibration begins; its step limit is fixed now (08 R144, R145 step 1). -/
def Positioner.beginRecal (ms limit origin : Nat) (p : Positioner) : Positioner :=
  { p with state := .recalibrating 0 origin limit, energised := true, stepTimer := some ms,
           recals := bump p.recals }

/-- Entry to SETTLING with the last phase held (08 R142, R146). -/
def Positioner.beginSettle (ms target : Nat) (recal : Bool) (p : Positioner) : Positioner :=
  { p with state := .settling target recal, stepTimer := none, settleTimer := some ms }

/-- A movement ends: all phases released, the register kept, no timer (08 R138, R143, R146, R147). -/
def Positioner.endMovement (st : PosState) (p : Positioner) : Positioner :=
  { p with state := st, energised := false, stepTimer := none, settleTimer := none }

/-- What the positioner reports to the media engine (08 R141, R143, R146, R147). -/
inductive PosReport where
  | settled (cylinder : Nat)
  | seekFault
  | refused
  | recalDone
  | recalFailed
  deriving DecidableEq, Repr

/-- A SEEK is taken: the state after it, and the report it is answered with at once (08 R141). -/
def takeSeek (c : Nat) (s : State) : State × Option PosReport :=
  match s.pos.state with
  | .idle at' =>
    if at' = c then (s, some (.settled c))
    else (s.setPos (s.pos.beginSeek s.tables.stepMs at' c), none)
  | .unknown => (s, some .refused)
  | .stepping .. | .settling .. | .recalibrating .. => (s.setPos { s.pos with held := some (.seek c) }, none)

/-- A RECALIBRATE is taken (08 R144). -/
def takeRecal (s : State) : State :=
  match s.pos.state with
  | .unknown => s.setPos (s.pos.beginRecal s.tables.stepMs s.tables.recalLimit 255)
  | .idle c => s.setPos (s.pos.beginRecal s.tables.stepMs s.tables.recalLimit c)
  | .stepping .. | .settling .. | .recalibrating .. => s.setPos { s.pos with held := some .recalibrate }

/-- A position fault reported by the media engine (08 R148). -/
def positionFaultReport (s : State) : State :=
  match s.pos.state with
  | .idle c => raiseEvent .positionFault (detailNat c) (s.setPos { s.pos with state := .unknown })
  | .unknown | .stepping .. | .settling .. | .recalibrating .. => s

/-- At the end of a movement the held request, if any, is taken; the report the engine acts on is the held request's
own where there is one, else the movement's (06 R94 case 1, 08 R140; log entry 19). -/
def finishMovement (report : PosReport) (s : State) : State × Option PosReport :=
  let s1 := s.setPos { s.pos with held := none }
  match s.pos.held with
  | none => (s1, some report)
  | some (.seek c) => takeSeek c s1
  | some .recalibrate => (takeRecal s1, none)

/-- The step timer expires in STEPPING or RECALIBRATING with `trk0` sampled (08 R142, R145 step 2, R147). -/
def stepExpiry (trk0 : Bool) (s : State) : State × Option PosReport :=
  match s.pos.state with
  | .stepping x target =>
    if x = 2 * target then (s.setPos (s.pos.beginSettle s.tables.settleMs target false), none)
    else (s.setPos (s.pos.stepToward s.tables.stepMs x target), none)
  | .recalibrating taken origin limit =>
    if trk0 then (s.setPos (s.pos.beginSettle s.tables.settleMs 0 true), none)
    else if taken < limit then
      (s.setPos { s.pos.phaseOut with
        state := .recalibrating (taken + 1) origin limit, stepTimer := some s.tables.stepMs }, none)
    else
      finishMovement .recalFailed
        (raiseEvent .positionFault (detailNat origin) (s.setPos (s.pos.endMovement .unknown)))
  | .unknown | .idle _ | .settling .. => (s, none)

/-- The arrival is good when TRK0 is active exactly at cylinder 0 (08 R143). -/
def arrivalGood (target : Nat) (trk0 : Bool) : Bool := (target == 0) == trk0

/-- The settle timer expires with `trk0` sampled (08 R143, R146). -/
def settleExpiry (trk0 : Bool) (s : State) : State × Option PosReport :=
  match s.pos.state with
  | .settling target recal =>
    if arrivalGood target trk0 then
      finishMovement (if recal then .recalDone else .settled target) (s.setPos (s.pos.endMovement (.idle target)))
    else
      finishMovement (if recal then .recalFailed else .seekFault)
        (raiseEvent .positionFault (detailNat target) (s.setPos (s.pos.endMovement .unknown)))
  | .unknown | .idle _ | .stepping .. | .recalibrating .. => (s, none)

/-- What LRST leaves of the positioner: the held request is discarded and a seek in STEPPING is shortened to the
even step position at which it will end (08 R152). -/
def Positioner.linkReset (p : Positioner) : Positioner :=
  match p.state with
  | .stepping x target =>
    { p with
      held := none
      state := .stepping x (if x % 2 = 0 then x / 2 else if x < 2 * target then (x + 1) / 2 else (x - 1) / 2) }
  | .unknown | .idle _ | .settling .. | .recalibrating .. => { p with held := none }

end Sys2Proof.Machine
end

