-- ==== Sys2Proof/Machine/SpindleOps.lean ====
section
/-!
DEFINITION. The spindle controller: deviation and control law (07 R122, R123), its states and their entries
(07 R125 to R129), and the requests it takes (07 R130, R131). What the engine and the codec do with its
reports is in SpindleCommands.lean.
-/

namespace Sys2Proof.Machine

/-! ## Deviation and control law -/

/-- 600,000 × e for a measured period `m` at a target speed (07 R122, second form). -/
def deviation (m rpm : Nat) : Int := (m : Int) * rpm - 60000000

/-- |e| ≤ 1 (07 R122). -/
def withinLock (d : Int) : Bool := decide (d.natAbs ≤ 600000)

/-- |e| > 3 (07 R122). -/
def outsideLoss (d : Int) : Bool := decide (1800000 < d.natAbs)

/-- round(|e|), halves away from zero (00_scope.md, arithmetic). -/
def roundDev (d : Int) : Nat := (d.natAbs + 300000) / 600000

/-- The drive level after a closed revolution (07 R123). -/
def controlLaw (level : Nat) (d : Int) : Nat :=
  let step := max 1 (min 16 (roundDev d))
  if d.natAbs ≤ 300000 then level
  else if 0 < d then min 255 (level + step)
  else level - step

/-- The detail of SPIN_LOST: round(e) clamped to −128 to +127 (07 R135, 09 R164). -/
def lostDetail (d : Int) : BitVec 24 :=
  BitVec.ofInt 24 (if 0 ≤ d then min 127 (roundDev d : Int) else max (-128) (-(roundDev d : Int)))

/-- The target's rpm; 0 where there is none. -/
def Spindle.rpm (p : Spindle) : Nat := (p.target.map (·.rpm)).getD 0

/-- The target's zone; 0 where there is none. -/
def Spindle.zone (p : Spindle) : Nat := (p.target.map (·.zone)).getD 0

/-! ## State entries -/

/-- The states that count toward lock (07 R124). -/
def SpinState.seeksLock : SpinState → Bool
  | .starting | .retargeting | .lost => true
  | .stopped | .locked | .stopping => false

/-- Entry to LOCKED: the timer stops and SPIN_LOCKED is raised with the target's zone (07 R125, R127, R128). -/
def lockSpindle (s : State) : State :=
  raiseEvent .spinLocked (detailNat s.spindle.zone)
    (s.setSpindle { s.spindle with
      state := .locked, inBand := 4, outBand := 0, spinupTimer := none, retargetTimer := none })

/-- Entry to LOST from LOCKED, with the detail of the loss (07 R126). -/
def loseSpindle (detail : BitVec 24) (s : State) : State :=
  raiseEvent .spinLost detail
    (s.setSpindle { s.spindle with
      state := .lost, inBand := 0, outBand := 2, retargetTimer := some s.tables.retargetS })

/-- The cause SPIN_STOPPED carries (09 R164). -/
def stoppedDetail : Option StopCause → BitVec 24
  | some .idle => 1
  | some .request => 2
  | none => 3

/-- Entry to STOPPED by a timeout: SPIN_FAULT with its detail (01h STARTUP, 02h RELOCK), then SPIN_STOPPED with cause
FAULT (07 R125, R127, R128). -/
def faultSpindle (detail : BitVec 24) (s : State) : State :=
  raiseEvent .spinStopped (stoppedDetail none) (raiseEvent .spinFault detail
    (s.setSpindle { s.spindle with
      state := .stopped, level := 0, target := none, framing := .off, spinupTimer := none, retargetTimer := none }))

/-- Entry to STOPPED from STOPPING (07 R129). -/
def restSpindle (s : State) : State :=
  raiseEvent .spinStopped (stoppedDetail s.spindle.stopCause)
    (s.setSpindle { s.spindle with state := .stopped, stopCause := none, silenceTimer := false })

/-- Entry to STOPPING (07 R129). -/
def beginStop (cause : StopCause) (p : Spindle) : Spindle :=
  { p with state := .stopping, level := 0, target := none, framing := .off, spinupTimer := none,
           retargetTimer := none, stopCause := some cause, silenceTimer := true }

/-- Entry to STARTING (07 R125). -/
def beginStart (t : Tables) (rpm zone : Nat) (p : Spindle) : Spindle :=
  { p with state := .starting, target := some ⟨rpm, zone⟩, level := t.startLevel, framing := .waiting,
           lastPeriod := 0, inBand := 0, spinupTimer := some t.spinupS, stopCause := none, silenceTimer := false }

/-- Entry to RETARGETING, or a new target within it (07 R127, R130). -/
def beginRetarget (t : Tables) (rpm zone : Nat) (p : Spindle) : Spindle :=
  { p with state := .retargeting, target := some ⟨rpm, zone⟩, inBand := 0, retargetTimer := some t.retargetS }

/-! ## Requests -/

/-- The controller's state after a speed request (07 R130). -/
def Spindle.speedRequest (t : Tables) (rpm zone : Nat) (p : Spindle) : Spindle :=
  match p.state with
  | .stopped | .stopping => beginStart t rpm zone p
  | .starting => { p with target := some ⟨rpm, zone⟩ }
  | .locked | .retargeting | .lost =>
    if p.rpm = rpm then { p with target := some ⟨rpm, zone⟩ } else beginRetarget t rpm zone p

/-- Whether a speed request is answered LOCKED at once (07 R130, R132). -/
def Spindle.answersLocked (rpm : Nat) (p : Spindle) : Bool := p.state == .locked && p.rpm == rpm

/-- The controller's state after a stop request (07 R131). -/
def Spindle.stopRequest (p : Spindle) : Spindle :=
  match p.state with
  | .stopped | .stopping => p
  | .starting | .locked | .retargeting | .lost => beginStop .request p

def requestSpeed (rpm zone : Nat) (s : State) : State :=
  s.setSpindle (s.spindle.speedRequest s.tables rpm zone)

def requestStop (s : State) : State := s.setSpindle s.spindle.stopRequest

/-! ## Framing (07 R121) -/

/-- A pulse `ns` after the one before it: the framing after it, and the measured period in whole microseconds of a
revolution it closes. -/
def Framing.pulse (ns : Nat) : Framing → Framing × Option Nat
  | .off => (.off, none)
  | .waiting => (.running 0 0, none)
  | .running pulses t =>
    if pulses + 1 < Config.pulsesPerRev then (.running (pulses + 1) (t + ns), none)
    else (.running 0 0, some ((t + ns) / 1000))

/-- The lock or loss count after a closed revolution (07 R124). -/
def Spindle.count (d : Int) (p : Spindle) : Spindle :=
  match p.state with
  | .locked => { p with outBand := if outsideLoss d then min 2 (p.outBand + 1) else 0 }
  | .starting | .retargeting | .lost => { p with inBand := if withinLock d then min 4 (p.inBand + 1) else 0 }
  | .stopped | .stopping => p

/-- The controller after a closed revolution of period `m`, before any state it enters (07 R121 steps 1 and 2). -/
def Spindle.closeRev (m : Nat) (p : Spindle) : Spindle :=
  Spindle.count (deviation m p.rpm) { p with lastPeriod := m, level := controlLaw p.level (deviation m p.rpm) }

end Sys2Proof.Machine
end

