-- ==== Sys2Proof/Machine/TableStore.lean ====
section
/-!
DEFINITION. The table store's own changes: derived structures (01 R3, 02 R28, 03 R42), generation and image
(10 R181 to R183), installing and clearing the active set (10 R180, R184, R185), map changes (03 R41, R51 to
R53), and staging (10 R172).
-/

namespace Sys2Proof.Machine

/-! ## Derived structures -/

/-- The inverse table of a code table: the group of each byte value that is a code byte (01 R3). -/
def buildInverse (code : List Byte) : List (Option Nat) :=
  (List.range 256).map fun v => code.findIdx? (· == byte v)

/-- A slot of a zone takes a state; the free count follows the states. -/
def setSlot (slots : List ZoneSlots) (zone slot : Nat) (st : SlotState) : List ZoneSlots :=
  modifyAt slots zone fun z =>
    let states := modifyAt z.states slot fun _ => st
    ⟨states, states.count .free⟩

/-- A map entry's slot becomes USED or RETIRED (03 R42 steps 2 and 3). -/
def applyEntry (recs : List ZoneRec) (slots : List ZoneSlots) (d : Defect) : List ZoneSlots :=
  match d with
  | .remap lba slot _ => setSlot slots ((zoneOfLba recs lba).getD 0) slot .used
  | .retire zone slot _ => setSlot slots zone slot .retired

/-- The slot states and free counts of a map over the zones (03 R42). -/
def buildSlots (recs : List ZoneRec) (map : List Defect) : List ZoneSlots :=
  map.foldl (applyEntry recs) (recs.map fun r => ⟨List.replicate r.spareSlots .free, r.spareSlots⟩)

/-- The lowest-numbered FREE slot of a zone (03 R46). -/
def lowestFree (slots : List ZoneSlots) (zone : Nat) : Option Nat :=
  (slots[zone]?).bind fun z => z.states.findIdx? (· == .free)

/-- A zone's free count. -/
def freeCount (slots : List ZoneSlots) (zone : Nat) : Nat := ((slots[zone]?).map (·.free)).getD 0

/-- Every increment goes from 65535 to 1 (03 R51, 10 R181). -/
def nextGeneration (g : BitVec 16) : BitVec 16 := if g = 0xFFFF#16 then 1 else g + 1

/-! ## Installing and clearing -/

/-- A set becomes active under a generation, with all that is derived from it (10 R180, R184). -/
def Tables.install (t : Tables) (a : ActiveSet) (g : BitVec 16) : Tables :=
  { t with
    active := some a
    generation := g
    zoneRecs := deriveZones a.zones
    slots := buildSlots (deriveZones a.zones) a.map
    inverse := buildInverse a.code }

/-- The image holds the active set as it stands (10 R183). -/
def Tables.writeImage (t : Tables) : Tables :=
  match t.active with
  | some a => { t with image := imageOf t.generation a }
  | none => { t with image := clearedImage }

/-- The active set, the generation, the derived structures and the image are cleared (10 R184 COLD, R185). -/
def Tables.clear (t : Tables) : Tables :=
  { t with
    active := none, generation := 0, zoneRecs := [], slots := [], inverse := emptyInverse,
    image := clearedImage }

/-! ## Start (10 R184) -/

/-- The set that raw entries stand for. -/
def RawImage.toSet (r : RawImage) : ActiveSet :=
  { device := .ofBytes (r.device.getD 0 []), zones := r.zones.map Zone.ofBytes,
    code := r.code.map (byteAt · 0), map := r.map.map Defect.ofBytes }

/-- The retained tables pass every check of LOAD_CLOSE and COMMIT (10 R184 step 3). -/
def RawImage.valid (r : RawImage) : Bool :=
  ((((checkDevice r.device).or (checkZones r.zones)).or (checkCode r.code)).or (checkDefects r.map)).isNone &&
  decide (r.zones.length ≤ 8 ∧ r.map.length ≤ Config.mapCapacity) && (checkSet r.toSet).isNone

/-- What a start finds usable in the image: the generation and set of a WARM start, or none for COLD. -/
def RetainedImage.usable : RetainedImage → Option (BitVec 16 × ActiveSet)
  | .unknown => none
  | .contents bytes check =>
    if check = crc32 bytes then
      (parseImage bytes).bind fun r =>
        if r.generation ≠ 0 ∧ r.valid = true then some (r.generation, r.toSet) else none
    else none

/-- The table store after a power-on or the assertion of RESET (10 R184). -/
def startTables (image : RetainedImage) : Tables :=
  match image.usable with
  | some (g, a) => { (Tables.cold.install a g) with start := .warm, image := image }
  | none => .cold

/-! ## Map changes (03 R48 to R53) -/

/-- A new entry goes where it keeps the order of the map (03 R41). -/
def insertDefect (d : Defect) : List Defect → List Defect
  | [] => [d]
  | e :: es => if e.before d then e :: insertDefect d es else d :: e :: es

/-- The REMAP entry of an LBA names another slot from now on, its origin GROWN (03 R38, R49). -/
def moveRemap (lba slot : Nat) (map : List Defect) : List Defect :=
  map.map fun d =>
    match d with
    | .remap l s o => if l = lba then .remap lba slot .grown else .remap l s o
    | .retire z s o => .retire z s o

/-- A stage that is not EMPTY becomes STALE, its entries kept (03 R53). -/
def Stage.markStale (g : Stage) : Stage := if g.state = .empty then g else { g with state := .stale }

/-- The map and the slots of the active set are replaced, the generation advances, the image is written and the
DEFECT staging is marked (03 R51, R53). With no active set there is no map to change. -/
def Tables.mapChange (t : Tables) (map : List Defect) (slots : List ZoneSlots) : Tables :=
  match t.active with
  | none => t
  | some a =>
    Tables.writeImage { t with
      active := some { a with map := map }
      slots := slots
      generation := nextGeneration t.generation
      staging := { t.staging with defect := t.staging.defect.markStale } }

/-- A slot that failed every pass is retired (03 R48). -/
def Tables.retireSlot (t : Tables) (zone slot : Nat) : Tables :=
  t.mapChange (insertDefect (.retire zone slot .grown) t.map) (setSlot t.slots zone slot .retired)

/-- A slot that succeeded becomes the placement of an LBA (03 R49). -/
def Tables.remapTo (t : Tables) (lba zone slot : Nat) : Tables :=
  match remapSlot t.map lba with
  | none => t.mapChange (insertDefect (.remap lba slot .grown) t.map) (setSlot t.slots zone slot .used)
  | some old =>
    t.mapChange (insertDefect (.retire zone old .grown) (moveRemap lba slot t.map))
      (setSlot (setSlot t.slots zone old .retired) zone slot .used)

/-- The map has no room for another entry (03 R48, R49). -/
def Tables.mapFull (t : Tables) : Bool := decide (Config.mapCapacity ≤ t.map.length)

/-- The events of a map change: MAP_GROWN with the chain's LBA, then SPARES_LOW with the zone when its free count
is spare_low or less (03 R52). -/
def raiseGrowth (lba zone : Nat) (s : State) : State :=
  let s1 := raiseEvent .mapGrown (detailNat lba) s
  if freeCount s.tables.slots zone ≤ s.tables.spareLow then raiseEvent .sparesLow (detailNat zone) s1 else s1

/-! ## Staging (10 R172) -/

def Staging.get (g : Staging) : TableId → Stage
  | .device => g.device
  | .zone => g.zone
  | .code => g.code
  | .defect => g.defect

def Staging.set (g : Staging) (id : TableId) (x : Stage) : Staging :=
  match id with
  | .device => { g with device := x }
  | .zone => { g with zone := x }
  | .code => { g with code := x }
  | .defect => { g with defect := x }

def TableId.all : List TableId := [.device, .zone, .code, .defect]

/-- A staging table takes another state and entries. -/
def Tables.setStage (t : Tables) (id : TableId) (x : Stage) : Tables :=
  { t with staging := t.staging.set id x }

/-- The entries of a VALID staging table. -/
def Tables.staged (t : Tables) (id : TableId) : Option (List (List Byte)) :=
  if (t.staging.get id).state = .valid then some (t.staging.get id).entries else none

/-- The rejection of the REJECTED staging table of lowest id (10 R178 check 4). -/
def Tables.firstRejected (t : Tables) : Option Rejection :=
  TableId.all.findSome? fun id =>
    match (t.staging.get id).state with
    | .rejected r => some r
    | _ => none

/-- The set a COMMIT judges: each table from VALID staging, else from the active set; none when a device record,
zone table or code table is in neither (10 R178 check 5, R179). -/
def Tables.candidate (t : Tables) : Option ActiveSet :=
  let device := match t.staged .device with
    | some es => some (Device.ofBytes (es.getD 0 []))
    | none => t.active.map (·.device)
  let zones := match t.staged .zone with
    | some es => some (es.map Zone.ofBytes)
    | none => t.active.map (·.zones)
  let code := match t.staged .code with
    | some es => some (es.map (byteAt · 0))
    | none => t.active.map (·.code)
  let map := match t.staged .defect with
    | some es => es.map Defect.ofBytes
    | none => t.map
  match device, zones, code with
  | some d, some z, some c => some ⟨d, z, c, map⟩
  | _, _, _ => none

/-- A COMMIT's installation (10 R180 effects 1 to 5): the set replaces the active one, each derived structure is
rebuilt when a table it follows from was staged and kept otherwise, the generation advances and the image is
written. -/
def Tables.commitSet (t : Tables) (a : ActiveSet) : Tables :=
  let zoned := (t.staged .zone).isSome
  let recs := if zoned then deriveZones a.zones else t.zoneRecs
  Tables.writeImage { t with
    active := some a
    generation := nextGeneration t.generation
    zoneRecs := recs
    slots := if zoned || (t.staged .defect).isSome then buildSlots recs a.map else t.slots
    inverse := if (t.staged .code).isSome then buildInverse a.code else t.inverse }

/-- Whether any staging table is VALID, so that a COMMIT has something to install (10 R178, R179). -/
def Tables.anyStaged (t : Tables) : Bool := TableId.all.any fun id => (t.staged id).isSome

/-- Each VALID staging table becomes EMPTY (10 R180 effect 1). -/
def Tables.emptyValid (t : Tables) : Tables :=
  TableId.all.foldl (fun u id => if (t.staged id).isSome then u.setStage id .reset else u) t

end Sys2Proof.Machine
end

