-- ==== Sys2Proof/Machine/Engine.lean ====
section
/-!
DEFINITION. The media engine (06 R91 to R119) with the reallocation chain (03 R45 to R50): what it does when a
request is handed to it and with each report of the codec, the positioner and the spindle controller. Each function
takes the operation record it works on and leaves the record it ends with in State.
-/

namespace Sys2Proof.Machine

/-- The engine holds this operation record. -/
def State.setOp (s : State) (op : Op) : State := s.setEngine { s.engine with op := some op }

/-! ## Ending a request (06 R117, R118; 05 R87; 04 R63) -/

/-- The LBA of the block at the cursor (06 R93). -/
def Op.lba (op : Op) : Nat := op.req.firstLba + op.cursor

/-- The end report of an operation (06 R117). -/
def Op.report (op : Op) (status : Status) (failing : Option (BitVec 32)) : DoneReport :=
  { status := status, blocksDone := op.blocksDone, retriesUsed := op.retriesUsed
    firstFailing := if status.namesLba then some op.lba else none
    failing := failing }

/-- The pages a READ no longer needs become FREE, with a grant decision (04 R63 step 1). -/
def settlePages (tag : Tag) (s : State) : State :=
  grant (s.setBuffer (s.buffer.release tag PageUse.isFilling))

/-- The record of a READ takes its end report and the engine stays with it in DRAIN (05 R87, 06 R118). -/
def enterDrain (op : Op) (report : DoneReport) (s : State) : State :=
  (s.setQueue (s.queue.update op.tag fun r => { r with endReport := some report })).setOp
    { op with stage := .drain, placement := none }

/-- The engine makes its end report: a READ drains or, with nothing left to send, is done at once; any other kind
is done in the same event (05 R87, 04 R63). -/
def finish (op : Op) (status : Status) (failing : Option (BitVec 32)) (s : State) : State :=
  match op.req.isRead with
  | false => produceDone op.tag (op.report status failing) s
  | true =>
    let s1 := settlePages op.tag s
    if (s1.buffer.ownedBy op.tag).isEmpty then produceDone op.tag (op.report status failing) s1
    else enterDrain op (op.report status failing) s1

/-- The engine ends the request with a status and no bitmap. -/
def endWith (op : Op) (status : Status) (s : State) : State := finish op status none s

/-- The status of a request that completed all its work (05 R88). -/
def Op.completed (op : Op) : Status :=
  if op.reallocated then .okReallocated else if op.recovered then .okRecovered else .ok

/-! ## Arming (06 R97, R98, R110) -/

/-- The page the request owns at the cursor's index (06 R97). -/
def cursorPage (op : Op) (s : State) : Nat := (s.buffer.pageOf op.tag op.cursor).getD 0

/-- The data of a write pass: the block's page, or zeros for a REASSIGN (03 R45, 06 R109). -/
def passData (op : Op) (s : State) : DataRef :=
  match op.req with
  | .reassign _ => .zeros
  | .read .. | .write .. | .verify .. | .format .. | .recal | .spin _ => .page (cursorPage op s)

/-- What the codec is armed with (06 R97, R112). -/
def passAction (op : Op) (s : State) : Action :=
  match op.purpose with
  | .read => .read (cursorPage op s)
  | .discard | .formatVerify _ | .trackWrite => .discard
  | .write => .write (passData op s)
  | .compare => .compare (passData op s)

/-- The sector the codec is armed for (06 R97, R112). -/
def passTarget (op : Op) : SectorId :=
  { cylinder := op.target.cylinder, head := op.target.head, zone := op.target.zone
    sector := match op.purpose with
      | .formatVerify k => k
      | .read | .discard | .write | .compare | .trackWrite => op.target.sector }

/-- The stage a pass hunts in (06 R105, R110). -/
def Purpose.huntStage : Purpose → EngineStage
  | .read | .discard | .write => .hunt
  | .compare | .formatVerify _ => .verify
  | .trackWrite => .trackWrite

/-- The revolution in progress now is one that has not begun (06 R98). -/
def Framing.notBegun : Framing → Bool
  | .off | .waiting => true
  | .running .. => false

/-- The engine arms the codec; hunt revolutions restart from 0 (06 R97, R98). -/
def armPass (op : Op) (s : State) : State :=
  codecArm (passTarget op) (passAction op s)
    (s.setOp { op with stage := op.purpose.huntStage, huntRevs := 0, huntFresh := s.spindle.framing.notBegun })

/-- The engine gives the codec TRACK_WRITE (06 R110 step 3). -/
def giveTrackWrite (op : Op) (s : State) : State :=
  codecTrackWrite op.target.cylinder op.target.head op.target.zone
    (s.setOp { op with stage := .trackWrite, huntRevs := 0 })

/-- POSITION and SPEED are closed: the write-protect sensor is asked before a write (06 R97, R110 step 3), then the
pass begins (06 R96). -/
def startAccess (op : Op) (s : State) : State :=
  match op.purpose with
  | .read | .discard | .compare | .formatVerify _ => armPass op s
  | .write => if s.pins.wprot then endWith op .writeProtected s else armPass op s
  | .trackWrite => if s.pins.wprot then endWith op .writeProtected s else giveTrackWrite op s

/-- The pass begins once both POSITION and SPEED are closed (06 R96). -/
def closeIfReady (op : Op) (s : State) : State :=
  if op.posOpen || op.speedOpen then s.setOp op else startAccess op s

/-! ## POSITION and SPEED (06 R94, R95) -/

/-- The engine opens POSITION for a cylinder: the state after its request, and whether POSITION stays open (06
R94). -/
def askPosition (cylinder : Nat) (s : State) : State × Bool :=
  match s.pos.state with
  | .unknown => (takeRecal s, true)
  | .idle _ | .stepping .. | .settling .. | .recalibrating .. =>
    ((takeSeek cylinder s).1, (takeSeek cylinder s).2.isNone)

/-- The engine opens SPEED: the state after its request, and whether SPEED stays open (06 R95). -/
def askSpeed (rpm zone : Nat) (s : State) : State × Bool :=
  (requestSpeed rpm zone s, !s.spindle.answersLocked rpm)

/-- POSITION and SPEED open together for the operation's target (06 R93, R109, R110). -/
def openBoth (op : Op) (s : State) : State :=
  let p := askPosition op.target.cylinder s
  let q := askSpeed op.target.rpm op.target.zone p.1
  closeIfReady { op with stage := .positionSpeed, posOpen := p.2, speedOpen := q.2 } q.1

/-- POSITION is opened again, after a recalibration (06 R94 case 2, R100). -/
def reopenPosition (op : Op) (s : State) : State :=
  let p := askPosition op.target.cylinder s
  closeIfReady { op with posOpen := p.2 } p.1

/-! ## The reallocation chain (03 R45 to R50) -/

/-- The target of a slot on trial (03 R46, 06 R109). -/
def slotTarget (t : Tables) (zone slot : Nat) : Target :=
  let at' := t.slotLocation zone slot
  { cylinder := at'.cylinder, head := at'.head, sector := at'.sector, zone := zone, rpm := (t.zoneAt zone).rpm }

/-- The next trial of a chain: the lowest FREE slot, or SPARES_EXHAUSTED (03 R46). -/
def startTrial (op : Op) (chain : Chain) (s : State) : State :=
  match lowestFree s.tables.slots chain.zone with
  | none => endWith { op with chain := none } .sparesExhausted s
  | some slot =>
    openBoth { op with
      chain := some { chain with slot := some slot }, target := slotTarget s.tables chain.zone slot
      purpose := .write, pass := 1 } s

/-- A chain begins for the block at the cursor (03 R45). -/
def startChain (op : Op) (s : State) : State :=
  startTrial op
    { lba := op.lba
      zone := (op.placement.map (·.zone)).getD 0
      oldSlot := (op.placement.map (·.source)).bind fun src =>
        match src with
        | .spare k => some k
        | .home => none
      slotsTried := 0, slot := none } s

/-- A slot has failed every pass (03 R48). -/
def slotFailed (op : Op) (chain : Chain) (s : State) : State :=
  if s.tables.mapFull then endWith { op with chain := none } .mapFull s
  else
    let s1 := raiseGrowth chain.lba chain.zone
      (s.setTables (s.tables.retireSlot chain.zone (chain.slot.getD 0)))
    if chain.slotsTried + 1 < 3 then
      startTrial op { chain with slotsTried := chain.slotsTried + 1, slot := none } s1
    else endWith { op with chain := none } .verifyFailed s1

/-! ## Blocks (06 R92, R93) -/

/-- The target a placement gives (06 R93). -/
def Placement.target (p : Placement) : Target := ⟨p.cylinder, p.head, p.sector, p.zone, p.rpm⟩

/-- TRANSLATE of the block at the cursor (06 R93). -/
def translateBlock (purpose : Purpose) (op : Op) (s : State) : State :=
  let p := s.tables.placement op.lba
  let op1 := { op with stage := .translate, placement := some p, target := p.target, purpose := purpose }
  match op.req with
  | .write .. =>
    if p.writeLock || s.pins.wprot then endWith op1 .writeProtected s else openBoth op1 s
  | .reassign _ =>
    if p.writeLock || s.pins.wprot then endWith op1 .writeProtected s else startChain op1 s
  | .read .. | .verify .. | .format .. | .recal | .spin _ => openBoth op1 s

/-- What a block request does first at each block (06 R97). -/
def Request.firstPurpose : Request → Purpose
  | .read .. => .read
  | .verify .. => .discard
  | .format .. => .trackWrite
  | .write .. | .reassign _ | .recal | .spin _ => .write

/-- The block has been completed; at the boundary the request ends, ends ABORTED, or goes on to its next block (06
R92). -/
def completeBlock (op : Op) (s : State) : State :=
  let op1 := { op with
    blocksDone := op.blocksDone + 1, recovered := op.recovered || decide (op.failures ≠ .none), chain := none }
  if op.req.blocks ≤ op.cursor + 1 then endWith op1 op1.completed s
  else if op.abortPending then endWith op1 .aborted s
  else
    translateBlock op.req.firstPurpose
      { op1 with
        cursor := op.cursor + 1, pass := 1, failures := .none, faultCount := 0, huntRevs := 0,
        placement := none } s

/-- A slot has succeeded: the map change is made and the block is completed (03 R49, R50). -/
def slotSucceeded (op : Op) (chain : Chain) (s : State) : State :=
  if s.tables.mapFull then endWith { op with chain := none } .mapFull s
  else
    let s1 := raiseGrowth chain.lba chain.zone
      (s.setTables (s.tables.remapTo chain.lba chain.zone (chain.slot.getD 0)))
    completeBlock { op with reallocated := true, failures := .none, chain := none }
      (s1.setEngine { s1.engine with reallocs := bump s1.engine.reallocs })

/-! ## Passes that fail (06 R101 to R106) -/

/-- How a pass failed (06 R91, failures). -/
inductive PassFailure where
  | huntTimeout
  | other
  deriving DecidableEq, Repr

/-- The failures of the block after one more failed pass (06 R91, R101). -/
def Failures.after (f : Failures) : PassFailure → Failures
  | .huntTimeout => if f = .none then .huntOnly else f
  | .other => .mixed

/-- The next pass is counted (06 R101, R104). -/
def Op.nextPass (op : Op) : Op :=
  { op with pass := op.pass + 1, retriesUsed := min 255 (op.retriesUsed + 1) }

/-- A read pass failed: another is armed at once, or the request ends (06 R101, R102). -/
def readFailed (why : PassFailure) (op : Op) (s : State) : State :=
  let op1 := { op with failures := op.failures.after why }
  if op.pass < 1 + s.tables.readRetries then
    armPass op1.nextPass (s.setEngine { s.engine with readRetries := bump s.engine.readRetries })
  else endWith op1 (if op1.failures = .huntOnly then .sectorNotFound else .dataError) s

/-- A write pass failed: another begins with the write, or the slot fails, or a chain starts, or the request ends (06
R104 to R106; 03 R47). The sensor is asked before the pass is begun (06 R97; log entry 18). -/
def writeFailed (why : PassFailure) (op : Op) (s : State) : State :=
  let op1 := { op with failures := op.failures.after why, purpose := .write }
  if op.pass < 1 + s.tables.writeRetries then
    if s.pins.wprot then endWith op1 .writeProtected s
    else armPass op1.nextPass (s.setEngine { s.engine with writeRetries := bump s.engine.writeRetries })
  else match op.chain with
    | some chain => slotFailed op1 chain s
    | none => if s.tables.autoRealloc then startChain op1 s else endWith op1 .verifyFailed s

/-- The next sector of a FORMAT's verification, or its end with the bitmap (06 R112). -/
def nextFormatSector (k : Nat) (op : Op) (s : State) : State :=
  if k + 1 < (s.tables.zoneAt op.target.zone).spt then armPass { op with purpose := .formatVerify (k + 1) } s
  else finish op (if op.failing = 0 then .ok else .formatErrors) (some op.failing) s

/-- A FORMAT's verify read failed: its sector joins the set (06 R112). -/
def formatReadFailed (k : Nat) (op : Op) (s : State) : State :=
  nextFormatSector k { op with failing := op.failing ||| (1#32 <<< k) } s

/-- A track write overran: the pass has failed, and not by a hunt timeout (06 R91, R111). -/
def trackOverran (op : Op) (s : State) : State :=
  let op1 := { op with failures := op.failures.after .other }
  if op.pass < 1 + s.tables.writeRetries then
    giveTrackWrite op1.nextPass (s.setEngine { s.engine with writeRetries := bump s.engine.writeRetries })
  else endWith op1 .spinFault s

/-- The pass in progress failed (06 R101, R104, R105, R112). -/
def passFailed (why : PassFailure) (op : Op) (s : State) : State :=
  match op.purpose with
  | .read | .discard => readFailed why op s
  | .write | .compare => writeFailed why op s
  | .formatVerify k => formatReadFailed k op s
  | .trackWrite => trackOverran op s

/-! ## Passes that succeed -/

/-- A READ's page is FULL and offered (04 R62). -/
def deliverPage (op : Op) (s : State) : State :=
  offerBlock (cursorPage op s) (s.setBuffer (s.buffer.setUse (cursorPage op s) (.full op.tag op.cursor)))

/-- A field read ended GOOD (06 R92, R105, R112; 03 R49). -/
def passGood (op : Op) (s : State) : State :=
  match op.purpose with
  | .read => completeBlock op (deliverPage op s)
  | .discard => completeBlock op s
  | .compare =>
    match op.chain with
    | some chain => slotSucceeded op chain s
    | none => completeBlock op s
  | .formatVerify k => nextFormatSector k op s
  | .write | .trackWrite => s

/-- Verification applies to a write (06 R105; 03 R47). -/
def verifies (op : Op) (t : Tables) : Bool := op.chain.isSome || op.req.verifyFlag || t.verifyDefault

/-- The codec reported WRITTEN (06 R104, R105). -/
def sectorWritten (op : Op) (s : State) : State :=
  if verifies op s.tables then armPass { op with purpose := .compare } s else completeBlock op s

/-- The codec reported a track write DONE (06 R110 step 4). -/
def trackWritten (op : Op) (s : State) : State :=
  if op.req.verifyFlag then armPass { op with purpose := .formatVerify 0 } s else endWith op .ok s

/-! ## Interruptions (06 R99, R100, R107) -/

/-- The pass is suspended until the spindle is LOCKED again (06 R107). -/
def suspendPass (op : Op) (s : State) : State :=
  s.setOp { op with stage := op.purpose.huntStage, awaitingRelock := true, huntRevs := 0 }

/-- A position fault of the block (06 R99, R100). `seen` tells one that came from an address field. The RECALIBRATE of
R100 is made in the same step (log entry 35); an LRST that arrives together with the report (08 R148) is the LRST
command's own step, execLrst. -/
def positionFault (seen : Bool) (op : Op) (s : State) : State :=
  let s1 := codecStop s
  let s2 := if seen then positionFaultReport s1 else s1
  if op.faultCount = 0 then
    (takeRecal s2).setOp { op with faultCount := 1, stage := .positionSpeed, posOpen := true }
  else endWith op .seekFault s2

/-- The interrupted part of the pass is repeated after the relock (06 R107, R111; log entry 33). -/
def resumePass (op : Op) (s : State) : State :=
  let op1 := { op with awaitingRelock := false }
  match op.purpose with
  | .trackWrite => giveTrackWrite op1 s
  | .read | .discard | .write | .compare | .formatVerify _ => startAccess op1 s

/-! ## Reports -/

/-- A refusal or a tear of the gate (06 R104, R107, R108, R111). -/
def gateStopped (cause : GateCause) (op : Op) (s : State) : State :=
  match cause with
  | .lock => suspendPass op s
  | .wprot | .writeLock => endWith op .writeProtected s
  | .position => positionFault false op s
  | .overrun => trackOverran op s

/-- The operation acts on the reports of the codec, the positioner and the spindle: there is one, not in DRAIN (06
R118). -/
def Engine.working (e : Engine) : Option Op :=
  match e.op with
  | some op => if op.stage = .drain then none else some op
  | none => none

/-- A report of the codec. -/
def codecReport (r : CodecReport) (s : State) : State :=
  match s.engine.working with
  | none => s
  | some op =>
    match r with
    | .read .good => passGood op s
    | .read .miscompare | .read .crcMismatch | .read .decodeFault => passFailed .other op s
    | .written => sectorWritten op s
    | .trackDone => trackWritten op s
    | .refused c | .torn c => gateStopped c op s
    | .abandoned => suspendPass op s

/-- A report of the positioner (06 R94, R99, R100, R115). -/
def positionReport (r : PosReport) (s : State) : State :=
  match s.engine.working with
  | none => s
  | some op =>
    match r with
    | .settled c =>
      if op.stage = .positionSpeed ∧ op.posOpen = true ∧ c = op.target.cylinder then
        closeIfReady { op with posOpen := false } s
      else s
    | .seekFault | .refused =>
      if op.stage = .positionSpeed ∧ op.posOpen = true then positionFault false op s else s
    | .recalDone =>
      if op.stage = .recalibrate then endWith op .ok s
      else if op.stage = .positionSpeed ∧ op.posOpen = true then reopenPosition op s else s
    | .recalFailed =>
      if op.stage = .recalibrate ∨ (op.stage = .positionSpeed ∧ op.posOpen = true) then endWith op .seekFault s
      else s

/-- A report acted on where there is one. -/
def positionReport? (r : Option PosReport) (s : State) : State :=
  match r with
  | some x => positionReport x s
  | none => s

/-- A SPIN UP or the SPEED stage or a suspended pass waits for the spindle (06 R95, R107, R113). -/
def Op.awaitsSpeed (op : Op) : Bool :=
  match op.req with
  | .spin mode => op.stage == .spinWait && mode == 1
  | .read .. | .write .. | .verify .. | .format .. | .reassign _ | .recal =>
    (op.stage == .positionSpeed && op.speedOpen) || op.awaitingRelock

/-- The spindle reports LOCKED at its target (06 R95, R107, R113). -/
def lockedReport (s : State) : State :=
  match s.engine.working with
  | none => s
  | some op =>
    if op.awaitsSpeed = true ∧ s.spindle.rpm = op.target.rpm then
      match op.stage with
      | .spinWait => endWith op .ok s
      | .positionSpeed => closeIfReady { op with speedOpen := false } s
      | .hunt | .transfer | .verify | .trackWrite => resumePass op s
      | .translate | .recalibrate | .drain => s
    else s

/-- The spindle reports lock lost: SPEED reopens if it had closed before the pass began (06 R96); a pass in progress
is suspended by the codec's own report (06 R107). -/
def lockLostReport (s : State) : State :=
  match s.engine.working with
  | none => s
  | some op => if op.stage = .positionSpeed then s.setOp { op with speedOpen := true } else s

/-- The spindle reports a spin-up, relock or retarget timeout (06 R95, R107, R113). -/
def timeoutReport (s : State) : State :=
  match s.engine.working with
  | none => s
  | some op => if op.awaitsSpeed then endWith op .spinFault s else s

/-- A SPIN DOWN waits for the spindle to stop (06 R114). -/
def Op.awaitsStop (op : Op) : Bool :=
  match op.req with
  | .spin mode => op.stage == .spinWait && mode != 1
  | .read .. | .write .. | .verify .. | .format .. | .reassign _ | .recal => false

/-- The spindle reports stopped (06 R114). -/
def stoppedReport (s : State) : State :=
  match s.engine.working with
  | none => s
  | some op => if op.awaitsStop then endWith op .ok s else s

/-- A closed revolution is reported (06 R98): counted while the codec hunts, if it began at or after the arming. -/
def revolutionReport (s : State) : State :=
  match s.engine.working, s.codec.mode with
  | some op, .hunt .. =>
    if op.huntFresh then s.setOp { op with huntRevs := min s.tables.huntRevs (op.huntRevs + 1) }
    else s.setOp { op with huntFresh := true }
  | _, _ => s

/-- The address lies on another cylinder or head than the operation's target (06 R99). -/
def Op.misplaces (op : Op) (id : SectorId) : Bool :=
  decide (id.cylinder ≠ op.target.cylinder ∨ id.head ≠ op.target.head)

/-- A well-checked address field that did not match the armed target (06 R98, R99). -/
def addressSeen (id : SectorId) (s : State) : State :=
  match s.engine.working with
  | none => s
  | some op => if op.misplaces id then positionFault true op s else s

/-- The report such a field makes to the positioner, and nothing the engine does after it (06 R99 step 2; 08 R148). -/
def addressReport (id : SectorId) (s : State) : State :=
  match s.engine.working with
  | none => s
  | some op => if op.misplaces id then positionFaultReport s else s

/-- The armed target matched: the pass goes on with the data field (06 R98). -/
def addressMatched (s : State) : State :=
  match s.engine.working with
  | none => s
  | some op => if op.stage = .hunt then s.setOp { op with stage := .transfer } else s

/-! ## Beginning a request (06 R91, R110, R113 to R115) -/

/-- The operation record of a request at its start (06 R91). -/
def Op.begin (tag : Tag) (req : Request) : Op :=
  { tag := tag, req := req, stage := .translate, cursor := 0, placement := none, target := ⟨0, 0, 0, 0, 0⟩
    purpose := req.firstPurpose, posOpen := false, speedOpen := false, pass := 1, failures := .none
    faultCount := 0, huntRevs := 0, huntFresh := false, awaitingRelock := false, blocksDone := 0
    retriesUsed := 0, recovered := false, reallocated := false, abortPending := false, failing := 0
    chain := none }

/-- The zone and speed a FORMAT of a cylinder works at (06 R110). -/
def formatTarget (t : Tables) (cylinder head : Byte) : Target :=
  let zone := (t.zoneOfCyl cylinder.toNat).getD 0
  ⟨cylinder.toNat, head.toNat, 0, zone, (t.zoneAt zone).rpm⟩

/-- TRANSLATE of a FORMAT (06 R110 steps 1 and 2). -/
def beginFormat (cylinder head : Byte) (op : Op) (s : State) : State :=
  let op1 := { op with target := formatTarget s.tables cylinder head }
  if (s.tables.zoneAt op1.target.zone).writeLock || s.pins.wprot then endWith op1 .writeProtected s
  else openBoth op1 s

/-- The zone a SPIN UP takes its speed from while CONFIGURED (06 R113). -/
def spinZone (t : Tables) (p : PosState) : Nat :=
  if p.known then
    if p.currentCylinder < t.param (·.cylinders) 0 then (t.zoneOfCyl p.currentCylinder).getD 0
    else t.zones.length - 1
  else 0

/-- The speed target of a SPIN UP (06 R113). -/
def spinTarget (s : State) : SpinTarget :=
  if s.tables.configured then
    ⟨(s.tables.zoneAt (spinZone s.tables s.pos.state)).rpm, spinZone s.tables s.pos.state⟩
  else ⟨600, 0⟩

/-- SPIN_WAIT of a SPIN UP (06 R113). -/
def beginSpinUp (op : Op) (s : State) : State :=
  let t := spinTarget s
  let op1 := { op with stage := .spinWait, target := ⟨0, 0, 0, t.zone, t.rpm⟩ }
  let q := askSpeed t.rpm t.zone s
  if q.2 then q.1.setOp op1 else endWith op1 .ok q.1

/-- SPIN_WAIT of a SPIN DOWN (06 R114). -/
def beginSpinDown (op : Op) (s : State) : State :=
  let op1 := { op with stage := .spinWait }
  if s.spindle.state = .stopped then endWith op1 .ok s else (requestStop s).setOp op1

/-- The engine leaves IDLE with a request (06 R91). -/
def beginOp (tag : Tag) (req : Request) (s : State) : State :=
  let op := Op.begin tag req
  let s1 := s.setOp op
  match req with
  | .read .. | .write .. | .verify .. | .reassign _ => translateBlock req.firstPurpose op s1
  | .format cylinder head _ => beginFormat cylinder head op s1
  | .spin mode => if mode = 1 then beginSpinUp op s1 else beginSpinDown op s1
  | .recal => (takeRecal s1).setOp { op with stage := .recalibrate }

end Sys2Proof.Machine
end

