-- ==== Sys2Proof/Machine/Scheduler.lean ====
section
/-!
DEFINITION. Who may go next and the choice among them (05 R75 to R83), and the acceptance of request frames (05
R69 to R72).
-/

namespace Sys2Proof.Machine

/-! ## Eligibility (05 R75 to R77) -/

/-- A record may be chosen, given the records older than it (05 R77). -/
def eligible (older : List Record) (r : Record) : Bool :=
  r.state == .ready && !older.any (fun o => o.req.conflicts r.req) &&
  !(r.req.isBarrier && !older.isEmpty) && !older.any (·.req.isBarrier)

/-- The eligible records, oldest first; `older` holds the records before the list, in any order. -/
def eligibleFrom (older : List Record) : List Record → List Record
  | [] => []
  | r :: rs => if eligible older r then r :: eligibleFrom (r :: older) rs else eligibleFrom (r :: older) rs

/-! ## The choice (05 R79 to R81) -/

/-- The target cylinder of a request (05 R79). -/
def targetCylinder (t : Tables) (r : Record) : Nat := (t.placement r.req.firstLba).cylinder

/-- Cylinders between the current one and a target. -/
def distance (current target : Nat) : Nat := max current target - min current target

/-- The oldest of the nearest candidates (05 R81). -/
def nearest (t : Tables) (current : Nat) : List Record → Option Record
  | [] => none
  | r :: rs =>
    match nearest t current rs with
    | none => some r
    | some q =>
      if distance current (targetCylinder t r) ≤ distance current (targetCylinder t q) then some r else some q

/-- A target is a candidate in a direction (05 R81). -/
def Direction.holds (current target : Nat) : Direction → Bool
  | .inward => decide (current ≤ target)
  | .outward => decide (target ≤ current)

def Direction.reverse : Direction → Direction
  | .inward => .outward
  | .outward => .inward

/-- The nearest candidate in a direction. -/
def candidateIn (t : Tables) (current : Nat) (d : Direction) (es : List Record) : Option Record :=
  nearest t current (es.filter fun r => d.holds current (targetCylinder t r))

/-- The elevator: the nearest in the direction, else in the other, which then stands (05 R81). -/
def elevator (t : Tables) (current : Nat) (d : Direction) (es : List Record) : Option (Record × Direction) :=
  match candidateIn t current d es with
  | some r => some (r, d)
  | none => (candidateIn t current d.reverse es).map fun r => (r, d.reverse)

/-- The promoted request first, then a barrier, then the elevator (05 R80, R81). -/
def choose (t : Tables) (current : Nat) (d : Direction) (es : List Record) : Option (Record × Direction) :=
  match es.find? fun r => decide (8 ≤ r.passCount) with
  | some r => some (r, d)
  | none =>
    match es.find? (·.req.isBarrier) with
    | some r => some (r, d)
    | none => elevator t current d es

/-- The tags of the eligible records older than the chosen one (05 R82). -/
def passedOver (chosen : Tag) (es : List Record) : List Tag :=
  (es.takeWhile fun r => !(r.tag == chosen)).map (·.tag)

/-- A chosen record becomes ACTIVE and the passed-over ones gain a pass (05 R82, R83). -/
def Queue.select (q : Queue) (chosen : Tag) (passed : List Tag) (d : Direction) : Queue :=
  { q with
    direction := d
    records := q.records.map fun r =>
      if r.tag == chosen then { r with state := .active }
      else if passed.contains r.tag then { r with passCount := min 255 (r.passCount + 1) } else r }

/-- One selection with the engine IDLE (05 R78): the choice, or none. -/
def selection (s : State) : Option (Record × Direction) :=
  choose s.tables s.pos.state.currentCylinder s.queue.direction (eligibleFrom [] s.queue.records)

/-- Selections while the engine is IDLE; `fuel` bounds the requests ended as soon as they begin (05 R78). -/
def scheduleLoop : Nat → State → State
  | 0, s => s
  | fuel + 1, s =>
    if s.engine.op.isSome then s
    else match selection s with
      | none => s
      | some (r, d) =>
        scheduleLoop fuel (beginOp r.tag r.req
          (s.setQueue (s.queue.select r.tag (passedOver r.tag (eligibleFrom [] s.queue.records)) d)))

/-- A selection is made (05 R78); each one ended at once takes a record, so their number bounds the repeats. -/
def schedule (s : State) : State := scheduleLoop s.queue.records.length s

/-- After what the engine did from `s` to `s'`: a selection, if the engine has become IDLE (05 R78). -/
def afterEngine (s s' : State) : State :=
  if s.engine.op.isSome && s'.engine.op.isNone then schedule s' else s'

/-! ## Acceptance (05 R69 to R72) -/

/-- A request frame is refused (05 R69). -/
def Queue.refuses (q : Queue) (tag : Tag) : Bool := decide (q.credits ≤ q.unsent.length) || q.inUse tag

/-- A count is 1 to 16. -/
def countOk (count : Byte) : Bool := decide (1 ≤ count.toNat ∧ count.toNat ≤ 16)

/-- No bit other than VERIFY. -/
def onlyVerify (flags : Byte) : Bool := flags &&& 0xFE == 0

/-- The checks of 05 R71 in their order: the status of the first that fails. -/
def acceptanceCheck (t : Tables) : Request → Option Status
  | .read lba count flags | .verify lba count flags =>
    if !t.configured then some .notConfigured
    else if !countOk count then some .badField
    else if flags ≠ 0 then some .badField
    else if t.capacity < lba.toNat + count.toNat then some .lbaRange else none
  | .write lba count flags =>
    if !t.configured then some .notConfigured
    else if !countOk count then some .badField
    else if !onlyVerify flags then some .badField
    else if t.capacity < lba.toNat + count.toNat then some .lbaRange else none
  | .format cylinder head flags =>
    if !t.configured then some .notConfigured
    else if !onlyVerify flags then some .badField
    else if cylinder.toNat < t.param (·.cylinders) 0 ∧ head.toNat < 2 then none else some .badField
  | .reassign lba =>
    if !t.configured then some .notConfigured
    else if lba.toNat < t.capacity then none else some .lbaRange
  | .recal => none
  | .spin mode => if mode = 1 ∨ mode = 2 then none else some .badField

/-- A credit and a tag are taken by a new record in ACCEPTED (05 R70 effects 1 and 2). -/
def Queue.accept (q : Queue) (tag : Tag) (req : Request) : Queue :=
  { q with credits := q.credits - 1, records := q.records ++ [⟨tag, req, .accepted, 0, none⟩] }

/-- A request that passed its checks leaves ACCEPTED (05 R72). -/
def enterWaiting (tag : Tag) (req : Request) (s : State) : State :=
  if req.needsPages then
    let s1 := s.setReqState tag .awaitPages
    grant (s1.setBuffer { s1.buffer with fifo := s1.buffer.fifo ++ [tag] })
  else s.setReqState tag .ready

/-- A request frame that is not refused is accepted (05 R70). -/
def accept (tag : Tag) (req : Request) (s : State) : State :=
  let s1 := s.setQueue (s.queue.accept tag req)
  match acceptanceCheck s.tables req with
  | some status => schedule (produceDone tag (endedEarly status) s1)
  | none => schedule (enterWaiting tag req s1)

/-- A refused frame is counted and dropped (05 R69). -/
def refuseRequest (s : State) : State := s.setQueue { s.queue with refused := bump s.queue.refused }

/-- A good request frame reaches the request queue (05 R69, R70); none does while a reset is asserted (09 R168; log
entry 23). -/
def takeRequest (tag : Tag) (req : Request) (s : State) : State :=
  if s.resetHeld then s
  else if s.queue.refuses tag then refuseRequest s
  else accept tag req s

end Sys2Proof.Machine
end

