-- ==== Sys2Proof/Machine/CodecCommands.lean ====
section
/-!
DEFINITION. The meanings of the codec's commands (01 R11 to R16), the hunt timeout (06 R98), and the write-protect sense
(11 R195; 01 R20), each with what the media engine does with the report.
-/

namespace Sys2Proof.Machine

/-! ## Address fields (01 R11) -/

/-- The armed target has matched: the codec leaves HUNT for the armed action (01 R11 step 4, R14, R16). -/
def matchTarget (target : SectorId) (action : Action) (s : State) : State :=
  addressMatched (s.setCodec { s.codec with
    reader := .clear
    mode := match action with
      | .write ref => .dataWrite target ref (.gap 0)
      | .read _ | .compare _ | .discard => .dataRead target action })

/-- The codec keeps what it has of the bits read so far. -/
def State.setReader (s : State) (r : Reader) : State := s.setCodec { s.codec with reader := r }

/-- What the bits read in HUNT do; after a field the compare resumes with an empty window (01 R11; log entry 12). -/
def addressEnd (target : SectorId) (action : Action) (r : AddressRead) (s : State) : State :=
  match r with
  | .more reader => s.setReader reader
  | .fault => (s.setReader .clear).countDecodeFault
  | .badCheck => (s.setReader .clear).countAddrError
  | .good id => if id = target then matchTarget target action s else addressSeen id (s.setReader .clear)

/-- Bit cells of gap 2 before the gate checks, 6 byte times (01 R16 step 1). -/
def gap2Cells : Nat := 48

/-- Bit cells of a data field, 690 byte times (01 R8). -/
def dataFieldCells : Nat := 5520

/-- Bit cells pass in DATA_WRITE: the gap count, or the byte count with the running CRC, goes on, short of its end,
which is GAP2_END's or WRITTEN's own event (01 R10, R16; log entry 12). -/
def WritePhase.pass (data : List Byte) (cells : Nat) : WritePhase → WritePhase
  | .gap n => .gap (min (gap2Cells - 1) (n + cells))
  | .sending n crc =>
    let m := min (dataFieldCells - 1) (n + cells)
    .sending m (writeCrc data (n / 8) (m / 8) crc)

/-- ADDRESS_FIELD_END. In DATA_WRITE its bits are cells that pass (log entry 12). -/
def execAddressFieldEnd (bits : List Bool) (s : State) : Result :=
  match s.codec.mode with
  | .hunt target action =>
    .next (afterEngine s (addressEnd target action (readAddress s.tables.inverse s.codec.reader bits) s))
  | .dataWrite target ref phase =>
    .next (s.setCodec { s.codec with mode := .dataWrite target ref (phase.pass (s.refData ref) bits.length) })
  | .idle | .dataRead .. | .trackWrite .. => .next s

/-! ## The hunt timeout (06 R98) -/

/-- The hunt expires: STOP, and the pass fails if the codec was still in HUNT; a field in progress is waited for (06
R98). -/
def huntExpires (op : Op) (s : State) : State :=
  match s.codec.mode with
  | .hunt .. => passFailed .huntTimeout op (codecStop s)
  | .dataRead .. | .dataWrite .. => codecStop s
  | .idle | .trackWrite .. => s

/-- HUNT_TIMEOUT: hunt revolutions have reached hunt_revs (06 R98; log entry 8). -/
def execHuntTimeout (s : State) : Result :=
  match s.engine.working with
  | some op =>
    if s.tables.huntRevs ≤ op.huntRevs then .next (afterEngine s (huntExpires op s)) else .next s
  | none => .next s

/-! ## Data fields (01 R14) -/

/-- The decoded bytes of a READ go to its page; COMPARE and DISCARD keep none (01 R14 step 3). -/
def keepDecoded (action : Action) (data : List Byte) (s : State) : State :=
  match action with
  | .read page => storeDecoded page data s
  | .compare _ | .discard | .write _ => s

/-- A decode fault ends DATA_READ (01 R13, R14, R21). -/
def endDecodeFault (s : State) : State := codecReport (.read .decodeFault) s.countDecodeFault.codecIdle

/-- The data bytes decoded so far. -/
def Reader.data (r : Reader) : List Byte := (r.field.map OpenField.data).getD []

/-- What the bits read in DATA_READ do: the bytes decoded go to their destination as they are recovered, and the field's
end is reported (01 R14). -/
def dataEnd (action : Action) (r : DataRead) (s : State) : State :=
  match r with
  | .more reader => keepDecoded action reader.data (s.setReader reader)
  | .noMark => endDecodeFault s
  | .fault data => endDecodeFault (keepDecoded action data s)
  | .whole data crcOk =>
    codecReport (.read (wholeOutcome s action data crcOk)) (keepDecoded action data s).codecIdle

/-- DATA_MARK_TIMEOUT, while the data mark is searched for (01 R14 step 1; log entry 12). -/
def execDataMarkTimeout (s : State) : Result :=
  match s.codec.mode, s.codec.reader.field with
  | .dataRead _ action, none => .next (afterEngine s (dataEnd action .noMark s))
  | .dataRead .., some _ => .next s
  | .idle, _ | .hunt .., _ | .dataWrite .., _ | .trackWrite .., _ => .next s

/-- DATA_READ_END (01 R14; log entry 12). -/
def execDataReadEnd (bits : List Bool) (s : State) : Result :=
  match s.codec.mode with
  | .dataRead _ action =>
    .next (afterEngine s (dataEnd action (readData s.tables.inverse s.codec.reader bits) s))
  | .idle | .hunt .. | .dataWrite .. | .trackWrite .. => .next s

/-! ## Sector writes (01 R15, R16) -/

/-- The gate checks at the end of gap 2 (01 R16 step 2). -/
def gapEnd (target : SectorId) (ref : DataRef) (s : State) : State :=
  match gateRefusal s target.zone none with
  | none =>
    s.setCodec { s.codec with
      mode := .dataWrite target ref (.sending 0 0xFFFF), wdata := dataField s.tables.code (s.refData ref) }
  | some cause => codecReport (.refused cause) s.codecIdle

/-- GAP2_END (log entry 12). -/
def execGap2End (s : State) : Result :=
  match s.codec.mode with
  | .dataWrite target ref (.gap _) => .next (afterEngine s (gapEnd target ref s))
  | .dataWrite _ _ (.sending ..) | .idle | .hunt .. | .dataRead .. | .trackWrite .. => .next s

/-- WRITTEN (01 R16 step 3; log entry 12). -/
def execWritten (s : State) : Result :=
  match s.codec.mode with
  | .dataWrite _ _ (.sending ..) => .next (afterEngine s (codecReport .written s.codecIdle))
  | .dataWrite _ _ (.gap _) | .idle | .hunt .. | .dataRead .. | .trackWrite .. => .next s

/-! ## Write protect (11 R195) -/

/-- A raised gate drops when WPROT becomes active (01 R20). -/
def dropGate (s : State) : State :=
  match s.codec.wprotReport with
  | some r => codecReport r s.codecIdle
  | none => s

/-- The sense takes a new level (11 R195). DESIGN CHOICE (log entry 34): the event is raised before a raised gate drops
and its report ends the pass. Unsafe. -/
def senseChange (active : Bool) (s : State) : State :=
  let s1 := s.setPins { s.pins with wprot := active }
  if active then dropGate (raiseEvent .wpAssert 0 s1) else raiseEvent .wpRelease 0 s1

/-- The pin of WPROT takes a level. -/
def State.setWprotPin (s : State) (active : Bool) : State := s.setPins { s.pins with wprotPin := active }

/-- WPROT_CHANGE. While RESET is asserted the sense waits for the release (11 R195; log entry 26). -/
def execWprotChange (active : Bool) (s : State) : Result :=
  if s.lines.reset = true ∨ s.pins.wprot = active then .next (s.setWprotPin active)
  else .next (afterEngine s (senseChange active (s.setWprotPin active)))

end Sys2Proof.Machine
end

