-- ==== Sys2Proof/Machine/LaneCommands.lean ====
section
/-!
DEFINITION. The reports that the last byte of a frame has left on HO (09 R167), each acted on by its producer before
the arbiter chooses again (log entry 21), and the resend timer (11 R193). A report with no frame of its kind on HO
changes nothing (log entry 20).
-/

namespace Sys2Proof.Machine

/-! ## NOTICE and REPLY -/

/-- The NOTICE class is empty; what it had to carry has reached the host (09 R167, R169). -/
def noticeGone (s : State) : State :=
  freeLane ((s.setArb { s.arb with notice := none }).setLines { s.lines with seed := none })

/-- NOTICE_SENT. -/
def execNoticeSent (s : State) : Result :=
  match s.arb.ho with
  | some (.notice _) => .next (noticeGone s)
  | _ => .next s

/-- The reply queue loses its head (09 R158, R167). -/
def replyGone (s : State) : State := freeLane (s.setArb { s.arb with replies := s.arb.replies.drop 1 })

/-- REPLY_SENT. -/
def execReplySent (s : State) : Result :=
  match s.arb.ho with
  | some (.reply _) => .next (replyGone s)
  | _ => .next s

/-! ## DONE and CALL -/

/-- The DONE's tag leaves the unsent-DONE list (05 R68): one entry of it, the oldest. -/
def doneGone (tag : Tag) (s : State) : State :=
  freeLane (s.setQueue { s.queue with unsent := s.queue.unsent.erase tag })

/-- DONE_SENT. -/
def execDoneSent (s : State) : Result :=
  match s.arb.ho with
  | some (.done tag _) => .next (doneGone tag s)
  | _ => .next s

/-- The data timer starts when the request the CALL was produced for is still in AWAIT_DATA: its record is the one
whose CALL is being sent (04 R59). -/
def callGone (tag : Tag) (s : State) : State :=
  freeLane (s.setBuffer (s.buffer.updateWrite tag fun w =>
    if w.call = .sending then { w with call := .sent, timer := some s.tables.dataTimeoutS } else w))

/-- CALL_SENT. -/
def execCallSent (s : State) : Result :=
  match s.arb.ho with
  | some (.call tag) => .next (callGone tag s)
  | _ => .next s

/-! ## BLOCK -/

/-- A READ whose end report is made and whose last page has become FREE is drained, and its DONE is produced (04 R63
step 3, 05 R87). -/
def drained (tag : Tag) (s : State) : State :=
  match s.queue.find tag with
  | some r =>
    match r.endReport with
    | some report => if (s.buffer.ownedBy tag).isEmpty then produceDone tag report s else s
    | none => s
  | none => s

/-- The page becomes FREE, a grant decision is made, and a drained READ is done (04 R63). -/
def pageGone (tag : Tag) (page : Nat) (s : State) : State :=
  drained tag (grant (s.setBuffer (s.buffer.setUse page .free)))

/-- BLOCK_SENT: the page first, then the arbiter's choice, then any selection (log entry 21). -/
def execBlockSent (s : State) : Result :=
  match s.arb.ho with
  | some (.block tag _ _ page) => .next (schedule (freeLane (pageGone tag page s)))
  | _ => .next s

/-! ## EVENT -/

/-- The frame of the outstanding record stands sent, and the resend timer starts when event_resend_s is not 0 (11
R191, R193). A frame already acknowledged starts none (11 R192). -/
def eventGone (seq : Byte) (s : State) : State :=
  freeLane (s.setEvents
    (if s.events.outstanding = some ⟨seq, .sending⟩ then
      { s.events with
        outstanding := some ⟨seq, .sent⟩
        resendTimer := if s.tables.eventResendS = 0 then none else some s.tables.eventResendS }
    else s.events))

/-- EVENT_SENT. -/
def execEventSent (s : State) : Result :=
  match s.arb.ho with
  | some (.event seq _ _ _) => .next (eventGone seq s)
  | _ => .next s

/-- The head record gets the next sequence and its frame is offered again (11 R193). -/
def resendHead (s : State) : State :=
  arbitrate (s.setEvents { s.events with
    sequence := s.events.sequence + 1
    outstanding := some ⟨s.events.sequence + 1, .offered⟩
    resendTimer := none })

/-- RESEND_TIMEOUT, with the timer running in AWAITING_ACK (11 R193). -/
def execResendTimeout (s : State) : Result :=
  if s.events.resendTimer.isSome ∧ s.events.outstanding.isSome then .next (resendHead s) else .next s

end Sys2Proof.Machine
end

