-- ==== Sys2Proof/WellFormed.lean ====
section
/-!
DEFINITION. Which commands could stand on the part's interfaces at all. The fields of every frame have
their widths in the types; what is left is the two frames whose length varies in the type: a BLOCK carries
exactly 512 data bytes and a LOAD_PUT 1 to 512 entry bytes (09 R157: LEN 515 and 3 to 514; R160, R161).
-/

namespace Sys2Proof

/-- A BLOCK's data is one whole block (09 R160). -/
def blockDataOk (data : List Byte) : Bool := data.length == 512

/-- A LOAD_PUT carries 1 to 512 bytes of entries (09 R157, R161). -/
def loadPutOk (entries : List Byte) : Bool := decide (1 ≤ entries.length ∧ entries.length ≤ 512)

/-- The command has a form its interface can carry. -/
def Instr.wellFormed : Instr → Bool
  | .block _ _ data => blockDataOk data
  | .loadPut _ entries => loadPutOk entries
  | .powerOn | .reset | .lrst _ | .resetRelease _ | .hiByte _ => true
  | .read .. | .write .. | .verify .. | .format .. | .reassign .. | .recal _ | .spin .. => true
  | .loadOpen .. | .loadClose _ | .loadDrop .. | .commit _ | .tableGet .. | .wipe _ => true
  | .query .. | .eventSet .. | .eventAck .. | .abort .. => true
  | .noticeSent | .replySent | .doneSent | .callSent | .blockSent | .eventSent => true
  | .dataTimeout _ | .tachPulse _ | .enterLocked | .enterLost | .stallTimeout => true
  | .spinupTimeout | .retargetTimeout | .silenceTimeout | .idleTimeout => true
  | .stepTimerExpiry _ | .settleTimerExpiry _ | .addressFieldEnd _ | .huntTimeout => true
  | .dataMarkTimeout | .dataReadEnd _ | .gap2End | .written | .wprotChange _ => true
  | .resendTimeout | .vretLoss => true

end Sys2Proof
end

