-- ==== Sys2Proof/Decode.lean ====
section
/-!
DEFINITION. The decoder of the opcode table's words, and the decoder and encoder of the frames the host
sends. The table gives no row any bits (spec/98_reader.md: no row with fixed bits or fields), so no word
spells a command. What a host does spell in bytes is a frame: KIND, TAG and PAYLOAD (09 R157, R159 to R161).
-/

namespace Sys2Proof

open Machine

/-- The command a word of the opcode table spells: none, since no row has bits. -/
def decodeTableWord (_nbits _w : Nat) : Option Instr := none

/-- The command a good host frame stands for, by its kind and the LEN the kind must carry (09 R157); none
for an unknown kind or a wrong length, the checks 2 and 3 of 09 R156. -/
def decodeFrame (kind tag : Byte) (payload : List Byte) : Option Instr :=
  match kind.toNat, payload with
  | 0x01, [a, b, c, count, flags] => some (.read tag (a ++ b ++ c) count flags)
  | 0x02, [a, b, c, count, flags] => some (.write tag (a ++ b ++ c) count flags)
  | 0x03, [a, b, c, count, flags] => some (.verify tag (a ++ b ++ c) count flags)
  | 0x04, [cylinder, head, flags] => some (.format tag cylinder head flags)
  | 0x05, [a, b, c] => some (.reassign tag (a ++ b ++ c))
  | 0x06, [] => some (.recal tag)
  | 0x07, [mode] => some (.spin tag mode)
  | 0x10, index :: data => if blockDataOk data then some (.block tag index data) else none
  | 0x20, [table] => some (.loadOpen tag table)
  | 0x21, entries => if loadPutOk entries then some (.loadPut tag entries) else none
  | 0x22, [] => some (.loadClose tag)
  | 0x23, [table] => some (.loadDrop tag table)
  | 0x24, [] => some (.commit tag)
  | 0x25, [table, first] => some (.tableGet tag table first)
  | 0x26, [] => some (.wipe tag)
  | 0x27, [flags] => some (.query tag flags)
  | 0x28, [hi, lo] => some (.eventSet tag (hi ++ lo))
  | 0x29, [acked] => some (.eventAck tag acked)
  | 0x2A, [named] => some (.abort tag named)
  | _, _ => none

/-- The three bytes of an LBA field, big-endian (09 R159). -/
def lbaBytes (lba : Lba) : List Byte :=
  [lba.extractLsb' 16 8, lba.extractLsb' 8 8, lba.extractLsb' 0 8]

/-- KIND, TAG and PAYLOAD of the frame that carries a command, where the command is a host frame. -/
def encodeFrame : Instr → Option (Byte × Byte × List Byte)
  | .read tag lba count flags => some (0x01, tag, lbaBytes lba ++ [count, flags])
  | .write tag lba count flags => some (0x02, tag, lbaBytes lba ++ [count, flags])
  | .verify tag lba count flags => some (0x03, tag, lbaBytes lba ++ [count, flags])
  | .format tag cylinder head flags => some (0x04, tag, [cylinder, head, flags])
  | .reassign tag lba => some (0x05, tag, lbaBytes lba)
  | .recal tag => some (0x06, tag, [])
  | .spin tag mode => some (0x07, tag, [mode])
  | .block tag index data => some (0x10, tag, index :: data)
  | .loadOpen seq table => some (0x20, seq, [table])
  | .loadPut seq entries => some (0x21, seq, entries)
  | .loadClose seq => some (0x22, seq, [])
  | .loadDrop seq table => some (0x23, seq, [table])
  | .commit seq => some (0x24, seq, [])
  | .tableGet seq table first => some (0x25, seq, [table, first])
  | .wipe seq => some (0x26, seq, [])
  | .query seq flags => some (0x27, seq, [flags])
  | .eventSet seq mask => some (0x28, seq, [mask.extractLsb' 8 8, mask.extractLsb' 0 8])
  | .eventAck seq acked => some (0x29, seq, [acked])
  | .abort seq tag => some (0x2A, seq, [tag])
  | _ => none

/-- The bytes of a command's frame on HI, SYNC to CRC (09 R154). -/
def laneBytes (i : Instr) : Option (List Byte) :=
  (encodeFrame i).map fun (kind, tag, payload) => frameBytes kind tag payload

end Sys2Proof
end

