-- ==== Sys2Proof/Machine/LinkOps.lean ====
section
/-!
DEFINITION. The link receiver's counters (09 R170), the routing of management frames (09 R158), and the BLOCK frame
(04 R60, R61).
-/

namespace Sys2Proof.Machine

/-! ## Link faults (09 R156, R158, R170) -/

/-- A complete frame whose CRC does not match: counter id 1. -/
def countBadCrc (s : State) : State :=
  raiseEvent .linkError 1 (s.setLink { s.link with badCrc := bump s.link.badCrc })

/-- A LEN or a kind the link does not take: counter id 2. -/
def countBadLength (s : State) : State :=
  raiseEvent .linkError 2 (s.setLink { s.link with badLength := bump s.link.badLength })

/-- A management frame that finds four REPLYs unsent: counter id 3. -/
def countOverrun (s : State) : State :=
  raiseEvent .linkError 3 (s.setLink { s.link with overrun := bump s.link.overrun })

/-- A good management frame goes to its owner, unless four REPLYs are unsent (09 R158); none arrives while a reset is
asserted (09 R168; log entry 23). -/
def manage (act : State → State) (s : State) : State :=
  if s.resetHeld then s
  else if s.arb.replies.length < Config.replyLimit then act s
  else countOverrun s

/-! ## BLOCK -/

/-- The buffer manager takes a BLOCK frame (04 R60, R61), with the selection its WRITE's readiness brings (05 R78). -/
def bufferBlock (tag : Tag) (index : Nat) (data : List Byte) (s : State) : State :=
  if blockAccepted tag index s then
    let s1 := fillBlock tag index data s
    if allReceived tag s1 then schedule (writeReady tag s1) else s1
  else discardBlock s

/-- A BLOCK frame on HI; one of another length is a link fault (09 R156; log entry 22). -/
def takeBlock (tag : Tag) (index : Byte) (data : List Byte) (s : State) : State :=
  if s.resetHeld then s
  else if blockDataOk data then bufferBlock tag index.toNat data s
  else countBadLength s

end Sys2Proof.Machine
end

