-- ==== Sys2Proof/Machine/Management.lean ====
section
/-!
DEFINITION. What the owner of each management frame does with it, REPLY included: the table store (10 R173 to R180,
R185, R186), the event unit (11 R192, R194), QUERY (11 R196) and ABORT (05 R84 to R86); then the meanings of the
management frames.
-/

namespace Sys2Proof.Machine

/-! ## Load sessions (10 R173 to R177) -/

/-- LOAD_OPEN (10 R173). -/
def loadOpen (seq table : Byte) (s : State) : State :=
  match TableId.ofByte table with
  | none => produceReply seq .badTable s
  | some id =>
    if s.tables.session.isSome then produceReply seq .sessionOpen s
    else produceReply seq .ok
      (s.setTables { s.tables.setStage id ⟨.loading, []⟩ with session := some id })

/-- A LOAD_PUT that is malformed or passes capacity closes the session; a LOADING table becomes REJECTED, a STALE one
stays (10 R174 cases 2 and 3). -/
def stopLoad (seq : Byte) (id : TableId) (r : Rejection) (s : State) : State :=
  let stage := s.tables.staging.get id
  if stage.state = .stale then produceReply seq .staleStage (s.setTables { s.tables with session := none })
  else produceReply seq (.rejected r)
    (s.setTables { s.tables.setStage id { stage with state := .rejected r } with session := none })

/-- LOAD_PUT (10 R174). -/
def loadPut (seq : Byte) (bytes : List Byte) (s : State) : State :=
  match s.tables.session with
  | none => produceReply seq .noSession s
  | some id =>
    let stage := s.tables.staging.get id
    let n := bytes.length / id.entrySize
    if bytes.length % id.entrySize ≠ 0 ∨ 32 < n then stopLoad seq id ⟨.field, stage.entries.length⟩ s
    else if id.capacity < stage.entries.length + n then stopLoad seq id ⟨.tooMany, id.capacity⟩ s
    else produceReply seq .ok
      (s.setTables (s.tables.setStage id
        { stage with entries := stage.entries ++ chunks id.entrySize n bytes }))

/-- LOAD_CLOSE (10 R175). -/
def loadClose (seq : Byte) (s : State) : State :=
  match s.tables.session with
  | none => produceReply seq .noSession s
  | some id =>
    let stage := s.tables.staging.get id
    if stage.state = .stale then produceReply seq .staleStage (s.setTables { s.tables with session := none })
    else match checkTable id stage.entries with
      | none => produceReply seq .ok
          (s.setTables { s.tables.setStage id { stage with state := .valid } with session := none })
      | some r => produceReply seq (.rejected r)
          (s.setTables { s.tables.setStage id { stage with state := .rejected r } with session := none })

/-- LOAD_DROP (10 R177). -/
def loadDrop (seq table : Byte) (s : State) : State :=
  match TableId.ofByte table with
  | none => produceReply seq .badTable s
  | some id =>
    produceReply seq .ok
      (s.setTables { s.tables.setStage id .reset with
        session := if s.tables.session = some id then none else s.tables.session })

/-! ## COMMIT, WIPE, TABLE_GET -/

/-- The answer of a COMMIT that is refused (10 R178 checks 1 to 4). -/
def commitRefusal (s : State) : Option ReplyBody :=
  if !s.queue.records.isEmpty then some .queueBusy
  else if s.tables.session.isSome then some .sessionOpen
  else if s.tables.staging.defect.state = .stale then some .staleStage
  else s.tables.firstRejected.map .rejected

/-- A COMMIT carried out (10 R180): the set is installed, then REPLY OK, then TABLES_COMMITTED. -/
def installSet (seq : Byte) (a : ActiveSet) (s : State) : State :=
  let t := (s.tables.commitSet a)
  let t1 := { t with staging := s.tables.emptyValid.staging }
  raiseEvent .tablesCommitted (detailNat t1.generation.toNat) (produceReply seq .ok (s.setTables t1))

/-- COMMIT (10 R178, R179). -/
def commit (seq : Byte) (s : State) : State :=
  match commitRefusal s with
  | some body => produceReply seq body s
  | none =>
    match s.tables.candidate with
    | none => produceReply seq .missingTable s
    | some a =>
      if s.tables.anyStaged then
        match checkSet a with
        | some r => produceReply seq (.rejected r) s
        | none => installSet seq a s
      else produceReply seq .ok s

/-- TABLE_GET (10 R186). -/
def tableGet (seq table first : Byte) (s : State) : State :=
  match TableId.ofByte table, s.tables.active with
  | none, _ => produceReply seq .badTable s
  | some _, none => produceReply seq .notConfigured s
  | some id, some a =>
    produceReply seq
      (.okTable s.tables.generation (a.entries id).length first.toNat
        (((a.entries id).drop first.toNat).take 32)) s

/-- WIPE (10 R185). -/
def wipe (seq : Byte) (s : State) : State :=
  if s.queue.records.isEmpty then produceReply seq .ok (s.setTables s.tables.clear)
  else produceReply seq .queueBusy s

/-! ## QUERY, EVENT_SET, EVENT_ACK -/

/-- QUERY (11 R196). -/
def query (seq flags : Byte) (s : State) : State :=
  if flags &&& 0xFE ≠ 0 then produceReply seq (.rejected ⟨.field, 0⟩) s
  else
    let s1 := produceReply seq (.okStatus (statusRecord s)) s
    if flags.getLsbD 0 then s1.clearCounters else s1

/-- The event unit under a new mask: queued records of disabled kinds are removed, the head in AWAITING_ACK excepted
(11 R194). -/
def Events.setMask (e : Events) (mask : BitVec 16) : Events :=
  let e1 := { e with mask := mask }
  match e.outstanding, e.queue with
  | some _, r :: rs => { e1 with queue := r :: rs.filter fun x => e1.enabled x.kind }
  | _, q => { e1 with queue := q.filter fun x => e1.enabled x.kind }

/-- EVENT_SET (11 R194). -/
def eventSet (seq : Byte) (mask : BitVec 16) (s : State) : State :=
  if mask &&& 0xF800 ≠ 0 then produceReply seq (.rejected ⟨.field, 0⟩) s
  else produceReply seq .ok (s.setEvents (s.events.setMask mask))

/-- The head record is acknowledged (11 R192). -/
def Events.acknowledge (e : Events) : Events :=
  { e with queue := e.queue.drop 1, outstanding := none, resendTimer := none }

/-- EVENT_ACK (11 R192); the REPLY is produced before the next record is offered (log entry 24). -/
def eventAck (seq acked : Byte) (s : State) : State :=
  if s.events.outstanding.map (·.seq) = some acked then
    offerEvent (produceReply seq .ok (s.setEvents s.events.acknowledge))
  else produceReply seq .badSeq s

/-! ## ABORT (05 R84 to R86; 04 R65) -/

/-- The buffer manager removes a waiting request (04 R65). -/
def removeWaiting (r : Record) (s : State) : State :=
  match r.state with
  | .awaitPages =>
    grant (s.setBuffer { s.buffer with fifo := s.buffer.fifo.filter fun t => !(t == r.tag) })
  | .awaitData => s.leaveAwaitData r.tag
  | .accepted | .ready | .active => s

/-- The abort-pending mark of the ACTIVE request (05 R85). -/
def markAbort (s : State) : State :=
  match s.engine.op with
  | some op => s.setOp { op with abortPending := true }
  | none => s

/-- ABORT (05 R84 to R86). -/
def abort (seq : Byte) (tag : Tag) (s : State) : State :=
  match s.queue.find tag with
  | none => produceReply seq .noSuchTag s
  | some r =>
    match r.state with
    | .active => markAbort (produceReply seq .ok s)
    | .accepted | .awaitPages | .awaitData | .ready =>
      schedule (produceDone tag (endedEarly .aborted) (removeWaiting r (produceReply seq .ok s)))

/-! ## The meanings -/

/-- LOAD_OPEN. -/
def execLoadOpen (seq table : Byte) (s : State) : Result := .next (manage (loadOpen seq table) s)

/-- A LOAD_PUT frame on HI; one of another length is a link fault (09 R156; log entry 22). -/
def takeLoadPut (seq : Byte) (entries : List Byte) (s : State) : State :=
  if s.resetHeld then s
  else if loadPutOk entries then manage (loadPut seq entries) s
  else countBadLength s

/-- LOAD_PUT. -/
def execLoadPut (seq : Byte) (entries : List Byte) (s : State) : Result := .next (takeLoadPut seq entries s)

/-- LOAD_CLOSE. -/
def execLoadClose (seq : Byte) (s : State) : Result := .next (manage (loadClose seq) s)

/-- LOAD_DROP. -/
def execLoadDrop (seq table : Byte) (s : State) : Result := .next (manage (loadDrop seq table) s)

/-- COMMIT. -/
def execCommit (seq : Byte) (s : State) : Result := .next (manage (commit seq) s)

/-- TABLE_GET. -/
def execTableGet (seq table first : Byte) (s : State) : Result := .next (manage (tableGet seq table first) s)

/-- WIPE. -/
def execWipe (seq : Byte) (s : State) : Result := .next (manage (wipe seq) s)

/-- QUERY. -/
def execQuery (seq flags : Byte) (s : State) : Result := .next (manage (query seq flags) s)

/-- EVENT_SET. -/
def execEventSet (seq : Byte) (mask : BitVec 16) (s : State) : Result := .next (manage (eventSet seq mask) s)

/-- EVENT_ACK. -/
def execEventAck (seq acked : Byte) (s : State) : Result := .next (manage (eventAck seq acked) s)

/-- ABORT. -/
def execAbort (seq : Byte) (tag : Tag) (s : State) : Result := .next (manage (abort seq tag) s)

end Sys2Proof.Machine
end

