-- ==== Sys2Proof/Machine/LinkCommands.lean ====
section
/-!
DEFINITION. The link receiver's byte (09 R155, R156), the handing of a good frame to its owner (09 R157), and the
meanings of HI_BYTE and BLOCK.
-/

namespace Sys2Proof.Machine

/-- A good frame is handed to its owner (09 R157, R158); what is not a host frame is never handed. -/
def deliver : Instr → State → State
  | .read tag lba count flags => takeRequest tag (.read lba count flags)
  | .write tag lba count flags => takeRequest tag (.write lba count flags)
  | .verify tag lba count flags => takeRequest tag (.verify lba count flags)
  | .format tag cylinder head flags => takeRequest tag (.format cylinder head flags)
  | .reassign tag lba => takeRequest tag (.reassign lba)
  | .recal tag => takeRequest tag .recal
  | .spin tag mode => takeRequest tag (.spin mode)
  | .block tag index data => takeBlock tag index data
  | .loadOpen seq table => manage (loadOpen seq table)
  | .loadPut seq entries => takeLoadPut seq entries
  | .loadClose seq => manage (loadClose seq)
  | .loadDrop seq table => manage (loadDrop seq table)
  | .commit seq => manage (commit seq)
  | .tableGet seq table first => manage (tableGet seq table first)
  | .wipe seq => manage (wipe seq)
  | .query seq flags => manage (query seq flags)
  | .eventSet seq mask => manage (eventSet seq mask)
  | .eventAck seq acked => manage (eventAck seq acked)
  | .abort seq tag => manage (abort seq tag)
  | .powerOn | .reset | .lrst _ | .resetRelease _ | .hiByte _ => id
  | .noticeSent | .replySent | .doneSent | .callSent | .blockSent | .eventSent => id
  | .dataTimeout _ | .tachPulse _ | .enterLocked | .enterLost | .stallTimeout => id
  | .spinupTimeout | .retargetTimeout | .silenceTimeout | .idleTimeout => id
  | .stepTimerExpiry _ | .settleTimerExpiry _ | .addressFieldEnd _ | .huntTimeout => id
  | .dataMarkTimeout | .dataReadEnd _ | .gap2End | .written | .wprotChange _ => id
  | .resendTimeout | .vretLoss => id

/-- A frame complete in BODY is judged: CRC, then kind and LEN, then its owner (09 R156). `bytes` holds KIND to the
CRC. -/
def judge (len : Nat) (bytes : List Byte) (s : State) : State :=
  if crc16 (be16 len ++ bytes.take len) ≠ beNat (bytes.drop len) then countBadCrc s
  else match bytes.take len with
    | kind :: tag :: payload =>
      match decodeFrame kind tag payload with
      | some i => deliver i s
      | none => countBadLength s
    | _ => countBadLength s

/-- The receiver takes another state. -/
def State.setRx (s : State) (rx : Receiver) : State := s.setLink { s.link with rx := rx }

/-- A LEN the receiver accepts in HEADER (09 R155). -/
def lenOk (len : Nat) : Bool := decide (2 ≤ len ∧ len ≤ 522)

/-- A byte taken from HI (09 R155). -/
def receiveByte (b : Byte) (s : State) : State :=
  match s.link.rx with
  | .hunt => if b = syncByte then s.setRx (.header none) else s
  | .header none => s.setRx (.header (some b))
  | .header (some hi) =>
    if lenOk (hi.toNat * 256 + b.toNat) then s.setRx (.body (hi.toNat * 256 + b.toNat) [])
    else countBadLength (s.setRx .hunt)
  | .body len bytes =>
    if bytes.length + 1 < len + 2 then s.setRx (.body len (bytes ++ [b]))
    else judge len (bytes ++ [b]) (s.setRx .hunt)

/-- What the bit receiver makes of the levels it samples: it goes on, or a byte is whole (09 R153). -/
inductive LaneRead where
  | more (lane : Option (List Bool))
  | byte (b : Byte)
  deriving DecidableEq, Repr

/-- The bit receiver: idle bits at 1, a start bit of 0, then eight bits, most significant first (09 R153). A whole byte
ends the command. -/
def readLane : Option (List Bool) → List Bool → LaneRead
  | lane, [] => .more lane
  | none, b :: bs => readLane (if b then none else some []) bs
  | some got, b :: bs =>
    if got.length < 7 then readLane (some (got ++ [b])) bs else .byte (byte (bitsNat (got ++ [b])))

/-- The bit receiver stands there from now on. -/
def State.setLane (s : State) (lane : Option (List Bool)) : State := s.setLink { s.link with lane := lane }

/-- A byte taken from HI; one taken while a reset is asserted is discarded (09 R168). -/
def takeByte (b : Byte) (s : State) : State := if s.resetHeld then s else receiveByte b s

/-- HI_BYTE (log entry 32). -/
def execHiByte (bits : List Bool) (s : State) : Result :=
  match readLane s.link.lane bits with
  | .more lane => .next (s.setLane lane)
  | .byte b => .next (takeByte b (s.setLane none))

/-- BLOCK. -/
def execBlock (tag : Tag) (index : Byte) (data : List Byte) (s : State) : Result :=
  .next (takeBlock tag index data s)

end Sys2Proof.Machine
end

