-- ==== Sys2Proof/Machine/PositionerCommands.lean ====
section
/-!
DEFINITION. The meanings of the positioner's two timer expiries (08 R142, R143, R145 to R147), each with the level of
TRK0 at that moment (log entry 11).
-/

namespace Sys2Proof.Machine

/-- STEP_TIMER_EXPIRY (08 R142, R145, R147), with the engine's part in its report. -/
def execStepTimerExpiry (trk0 : Bool) (s : State) : Result :=
  if s.pos.stepTimer.isSome then
    .next (afterEngine s (positionReport? (stepExpiry trk0 s).2 (stepExpiry trk0 s).1))
  else .next s

/-- SETTLE_TIMER_EXPIRY (08 R143, R146), with the engine's part in its report. -/
def execSettleTimerExpiry (trk0 : Bool) (s : State) : Result :=
  if s.pos.settleTimer.isSome then
    .next (afterEngine s (positionReport? (settleExpiry trk0 s).2 (settleExpiry trk0 s).1))
  else .next s

end Sys2Proof.Machine
end

