-- ==== Sys2Proof/Machine/RequestCommands.lean ====
section
/-!
DEFINITION. The meanings of the request frames (05 R69 to R72; 09 R159) and of the expiry of a data timer (04 R59).
-/

namespace Sys2Proof.Machine

/-- READ. -/
def execRead (tag : Tag) (lba : Lba) (count flags : Byte) (s : State) : Result :=
  .next (takeRequest tag (.read lba count flags) s)

/-- WRITE. -/
def execWrite (tag : Tag) (lba : Lba) (count flags : Byte) (s : State) : Result :=
  .next (takeRequest tag (.write lba count flags) s)

/-- VERIFY. -/
def execVerify (tag : Tag) (lba : Lba) (count flags : Byte) (s : State) : Result :=
  .next (takeRequest tag (.verify lba count flags) s)

/-- FORMAT. -/
def execFormat (tag : Tag) (cylinder head flags : Byte) (s : State) : Result :=
  .next (takeRequest tag (.format cylinder head flags) s)

/-- REASSIGN. -/
def execReassign (tag : Tag) (lba : Lba) (s : State) : Result := .next (takeRequest tag (.reassign lba) s)

/-- RECAL. -/
def execRecal (tag : Tag) (s : State) : Result := .next (takeRequest tag .recal s)

/-- SPIN. -/
def execSpin (tag : Tag) (mode : Byte) (s : State) : Result := .next (takeRequest tag (.spin mode) s)

/-- The data timer of a tag runs and its request is in AWAIT_DATA (04 R59). -/
def dataTimerRuns (tag : Tag) (s : State) : Bool :=
  match s.queue.find tag, s.buffer.writeOf tag with
  | some r, some w => r.state == .awaitData && w.timer.isSome
  | _, _ => false

/-- DATA_TIMEOUT: the request ends DATA_TIMEOUT and its pages are freed with its DONE (04 R59, R64). -/
def execDataTimeout (tag : Tag) (s : State) : Result :=
  if dataTimerRuns tag s then
    .next (schedule (produceDone tag (endedEarly .dataTimeout) (s.leaveAwaitData tag)))
  else .next s

end Sys2Proof.Machine
end

