-- ==== Sys2Proof/Machine/ResetCommands.lean ====
section
/-!
DEFINITION. Power-on, the two reset lines, their release with the NOTICE (09 R168, R169), and the loss of VRET (10
R183).
-/

namespace Sys2Proof.Machine

/-! ## The NOTICE (09 R165, R169) -/

/-- The tags in use at an assertion: those of the records and of the unsent DONEs (05 R90, 09 R169). -/
def Queue.tagsInUse (q : Queue) : BitVec 256 := tagSet (q.records.map (·.tag) ++ q.unsent)

/-- The tags the next NOTICE lists: those of the NOTICE not yet wholly sent, and those in use now (09 R169). -/
def discardedTags (s : State) : BitVec 256 := ((s.lines.seed.map (·.tags)).getD 0) ||| s.queue.tagsInUse

/-- The NOTICE as the part composes it at the release (09 R169). -/
def composeNotice (seed : NoticeSeed) (t : Tables) : Notice :=
  ⟨seed.kind, t.start, t.generation, Config.creditLimit, seed.tags⟩

/-- The NOTICE joins its class and the arbiter chooses (09 R168, R169). -/
def produceNotice (s : State) : State :=
  match s.lines.seed with
  | some seed => arbitrate (s.setArb { s.arb with notice := some (composeNotice seed s.tables) })
  | none => s

/-! ## Power-on and RESET -/

/-- The buffer after power-on and RESET: page data left as it was (04 R66). -/
def Buffer.hardReset (b : Buffer) : Buffer :=
  { pages := b.pages.map fun q => { q with use := .free }, fifo := [], writes := [], discards := 0 }

/-- The part as power-on and RESET leave it, over a table store that has started (09 R168). -/
def State.hardReset (s : State) (pins : Pins) : State :=
  (State.afterReset (startTables s.tables.image) pins s.pending).setBuffer s.buffer.hardReset

/-- POWER_ON (10 R184): every block as power-on leaves it, both lines released, and the NOTICE built afresh (09 R169;
log entry 4). -/
def execPowerOn (s : State) : Result :=
  .next (produceNotice
    ((s.hardReset ⟨s.pins.wprotPin, s.pins.wprotPin⟩).setLines
      ⟨false, false, some ⟨.power, 0⟩⟩))

/-- RESET asserted (09 R168): every block as power-on leaves it; an assertion of an asserted line is none (log entry
20). -/
def execReset (s : State) : Result :=
  if s.lines.reset then .next s
  else .next ((s.hardReset s.pins).setLines
    ⟨true, s.lines.lrst, some ⟨.resetLine, discardedTags s⟩⟩)

/-! ## LRST -/

/-- The kind the NOTICE after an LRST carries (09 R169). -/
def linkResetKind (seed : Option NoticeSeed) : ResetKind :=
  match seed with
  | some ⟨.power, _⟩ => .power
  | some ⟨.resetLine, _⟩ => .resetLine
  | some ⟨.link, _⟩ | none => .link

/-- The buffer after LRST: page data and the discard counter kept (04 R66). -/
def Buffer.linkReset (b : Buffer) : Buffer :=
  { pages := b.pages.map fun q => { q with use := .free }, fifo := [], writes := [], discards := b.discards }

/-- The event unit after LRST: mask and sequence kept (11 R197). -/
def Events.linkReset (e : Events) : Events := { e with queue := [], outstanding := none, resendTimer := none }

/-- What LRST does to every block (09 R168; 04 R66, 05 R90, 06 R120, 01 R22, 07 R137, 08 R152, 10 R188, 11 R197). -/
def linkReset (s : State) : State :=
  { s with
    link := { s.link with rx := .hunt }
    arb := .reset
    queue := { Queue.reset with refused := s.queue.refused }
    buffer := s.buffer.linkReset
    tables := { s.tables with staging := .reset, session := none }
    engine := { s.engine with op := none }
    codec := s.codec.toIdle
    pos := s.pos.linkReset
    events := s.events.linkReset }

/-- What the bits taken before an LRST that arrives together with them have done: an address field that ends is counted
or reported, and the engine reports a position fault to the positioner. The LRST discards the operation before it acts
on the report further (08 R148, 06 R120). -/
def takenBefore (bits : List Bool) (s : State) : State :=
  match s.codec.mode with
  | .hunt target _ =>
    match readAddress s.tables.inverse s.codec.reader bits with
    | .more _ => s
    | .fault => s.countDecodeFault
    | .badCheck => s.countAddrError
    | .good id => if id = target then s else addressReport id s
  | .idle | .dataRead .. | .dataWrite .. | .trackWrite .. => s

/-- The assertion of LRST itself (09 R168). -/
def assertLrst (s : State) : State :=
  (linkReset s).setLines ⟨s.lines.reset, true, some ⟨linkResetKind s.lines.seed, discardedTags s⟩⟩

/-- LRST (09 R168). With bits that end an address field, the field and its fault report are taken first; without, the
LRST is, and no report is made (08 R148, 06 R120; log entry 35). -/
def execLrst (s : State) (bits : List Bool := []) : Result :=
  if s.lines.lrst then .next s else .next (assertLrst (takenBefore bits s))

/-! ## Release -/

/-- The line is asserted. -/
def Lines.asserted (l : Lines) : ResetLine → Bool
  | .reset => l.reset
  | .lrst => l.lrst

def Lines.release (l : Lines) : ResetLine → Lines
  | .reset => { l with reset := false }
  | .lrst => { l with lrst := false }

/-- At the release of RESET the write-protect sense takes the level of its pin (11 R195). -/
def Pins.atRelease (p : Pins) : ResetLine → Pins
  | .reset => { p with wprot := p.wprotPin }
  | .lrst => p

/-- RESET_RELEASE (09 R168, R169): the NOTICE is produced once no line is asserted (log entry 5). -/
def execResetRelease (line : ResetLine) (s : State) : Result :=
  if s.lines.asserted line then
    let s1 := (s.setLines (s.lines.release line)).setPins (s.pins.atRelease line)
    .next (if s1.resetHeld then s1 else produceNotice s1)
  else .next s

/-! ## VRET -/

/-- VRET_LOSS (10 R183): the image's contents are unknown (log entry 16). -/
def execVretLoss (s : State) : Result := .next (s.setTables { s.tables with image := .unknown })

end Sys2Proof.Machine
end

