-- ==== Sys2Proof/Machine/SpindleCommands.lean ====
section
/-!
DEFINITION. A TACH pulse as the codec and the spindle controller take it (01 R18; 07 R121 to R128), and the meanings of
the spindle's commands (07 R125 to R133).
-/

namespace Sys2Proof.Machine

/-! ## Entries with their reports (07 R126, R132; 01 R20) -/

/-- The spindle enters LOCKED and reports it (07 R125, R127, R128, R132). -/
def becomeLocked (s : State) : State := lockedReport (lockSpindle s)

/-- The codec sees the spindle leave LOCKED (01 R20). -/
def codecLockLost (s : State) : State :=
  match s.codec.lockLossReport with
  | some r => codecReport r s.codecIdle
  | none => s

/-- The spindle enters LOST: SPIN_LOST, then the codec's drop or abandonment, then the report (07 R126, R132). -/
def becomeLost (detail : BitVec 24) (s : State) : State :=
  lockLostReport (codecLockLost (loseSpindle detail s))

/-! ## TACH (07 R121; 01 R18) -/

/-- The codec counts a pulse of a track write (01 R18; log entries 9 and 10). -/
def codecPulse (ns : Nat) (s : State) : State :=
  match s.codec.mode with
  | .trackWrite c h z .waiting =>
    match gateRefusal s z (some c) with
    | some cause => codecReport (.refused cause) s.codecIdle
    | none =>
      s.setCodec { s.codec with
        mode := .trackWrite c h z (.running 0 0 0)
        wdata := trackRecord s.tables.code (s.tables.zoneAt z) c h z }
  | .trackWrite c h z (.running pulses t _) =>
    let sent := bytesIn (t + ns) s.tables.cellTime
    if pulses + 1 < Config.pulsesPerRev then
      s.setCodec { s.codec with
        mode := .trackWrite c h z (.running (pulses + 1) (t + ns)
          (min (s.tables.zoneAt z).spt (sent / (s.tables.zoneAt z).sectorBytes)))
        wdata := fillTo sent s.codec.wdata }
    else if trackNeedNs (s.tables.zoneAt z) s.tables.cellTime ≤ t + ns then
      codecReport .trackDone s.codecIdle
    else codecReport (.torn .overrun) s.codecIdle
  | .idle | .hunt .. | .dataRead .. | .dataWrite .. => s

/-- A revolution of period `m` closes: control law and counts, the state they lead to, then the report to the engine
(07 R121, R124 to R128). -/
def closeRevolution (m : Nat) (s : State) : State :=
  let p := s.spindle.closeRev m
  let s1 := s.setSpindle p
  let s2 :=
    if p.state.seeksLock = true ∧ p.inBand = 4 then becomeLocked s1
    else if p.state = .locked ∧ p.outBand = 2 then becomeLost (lostDetail (deviation m p.rpm)) s1
    else s1
  revolutionReport s2

/-- The spindle controller takes a pulse (07 R121, R129). -/
def spindlePulse (ns : Nat) (s : State) : State :=
  match s.spindle.state with
  | .stopped => s
  | .stopping => s.setSpindle { s.spindle with silenceTimer := true }
  | .starting | .locked | .retargeting | .lost =>
    let s1 := s.setSpindle { s.spindle with framing := (s.spindle.framing.pulse ns).1 }
    match (s.spindle.framing.pulse ns).2 with
    | none => s1
    | some m => closeRevolution m s1

/-- TACH_PULSE: the codec's count, then the controller's count with its revolution-closed report (07 R121), and last the
selection of 05 R78 when the pulse has ended a request, a FORMAT or a SPIN UP. The manual gives no order for that
selection within the pulse: a hunt it arms does not count the revolution that begins here (DESIGN CHOICE, log entry
9). -/
def execTachPulse (ns : Nat) (s : State) : Result :=
  .next (afterEngine s (spindlePulse ns (codecPulse ns s)))

/-! ## Entries and timers -/

/-- ENTER_LOCKED: the revolution that completes the lock (07 R125, R127, R128; log entry 7). -/
def execEnterLocked (s : State) : Result :=
  if s.spindle.state.seeksLock then .next (afterEngine s (becomeLocked s)) else .next s

/-- ENTER_LOST: the revolution that completes the loss (07 R126; log entries 7 and 25). -/
def execEnterLost (s : State) : Result :=
  if s.spindle.state = .locked then
    .next (afterEngine s (becomeLost (lostDetail (deviation s.spindle.lastPeriod s.spindle.rpm)) s))
  else .next s

/-- STALL_TIMEOUT: 1 s of TACH silence in LOCKED (07 R126, R135). -/
def execStallTimeout (s : State) : Result :=
  if s.spindle.state = .locked then .next (afterEngine s (becomeLost 127 s)) else .next s

/-- The spin-up timer runs in STARTING (07 R125). -/
def spinupRuns (s : State) : Bool := s.spindle.state == .starting && s.spindle.spinupTimer.isSome

/-- SPINUP_TIMEOUT (07 R125). -/
def execSpinupTimeout (s : State) : Result :=
  if spinupRuns s then .next (afterEngine s (timeoutReport (faultSpindle 1 s))) else .next s

/-- The retarget timer runs in RETARGETING or LOST (07 R127, R128). -/
def retargetRuns (s : State) : Bool :=
  (s.spindle.state == .retargeting || s.spindle.state == .lost) && s.spindle.retargetTimer.isSome

/-- RETARGET_TIMEOUT (07 R127, R128). -/
def execRetargetTimeout (s : State) : Result :=
  if retargetRuns s then .next (afterEngine s (timeoutReport (faultSpindle 2 s))) else .next s

/-- SILENCE_TIMEOUT (07 R129). -/
def execSilenceTimeout (s : State) : Result :=
  if s.spindle.state == .stopping && s.spindle.silenceTimer then
    .next (afterEngine s (stoppedReport (restSpindle s)))
  else .next s

/-- IDLE_TIMEOUT (07 R133). -/
def execIdleTimeout (s : State) : Result :=
  if s.idleRunning then .next (s.setSpindle (beginStop .idle s.spindle)) else .next s

end Sys2Proof.Machine
end

