-- ==== Sys2Proof/Machine/Dispatch.lean ====
section
/-! DEFINITION. The command dispatch: one arm per row of spec/opcode_table.json. -/

namespace Sys2Proof.Machine

def exec (i : Instr) (s : State) : Host.Outcome State Fault Refusal :=
  match i with
  | .powerOn => Sys2Proof.Machine.execPowerOn s
  | .reset => Sys2Proof.Machine.execReset s
  | .lrst bits => Sys2Proof.Machine.execLrst s bits
  | .resetRelease line => Sys2Proof.Machine.execResetRelease line s
  | .hiByte bits => Sys2Proof.Machine.execHiByte bits s
  | .read tag lba count flags => Sys2Proof.Machine.execRead tag lba count flags s
  | .write tag lba count flags => Sys2Proof.Machine.execWrite tag lba count flags s
  | .verify tag lba count flags => Sys2Proof.Machine.execVerify tag lba count flags s
  | .format tag cylinder head flags => Sys2Proof.Machine.execFormat tag cylinder head flags s
  | .reassign tag lba => Sys2Proof.Machine.execReassign tag lba s
  | .recal tag => Sys2Proof.Machine.execRecal tag s
  | .spin tag mode => Sys2Proof.Machine.execSpin tag mode s
  | .block tag index data => Sys2Proof.Machine.execBlock tag index data s
  | .loadOpen seq table => Sys2Proof.Machine.execLoadOpen seq table s
  | .loadPut seq entries => Sys2Proof.Machine.execLoadPut seq entries s
  | .loadClose seq => Sys2Proof.Machine.execLoadClose seq s
  | .loadDrop seq table => Sys2Proof.Machine.execLoadDrop seq table s
  | .commit seq => Sys2Proof.Machine.execCommit seq s
  | .tableGet seq table first => Sys2Proof.Machine.execTableGet seq table first s
  | .wipe seq => Sys2Proof.Machine.execWipe seq s
  | .query seq flags => Sys2Proof.Machine.execQuery seq flags s
  | .eventSet seq mask => Sys2Proof.Machine.execEventSet seq mask s
  | .eventAck seq acked => Sys2Proof.Machine.execEventAck seq acked s
  | .abort seq tag => Sys2Proof.Machine.execAbort seq tag s
  | .noticeSent => Sys2Proof.Machine.execNoticeSent s
  | .replySent => Sys2Proof.Machine.execReplySent s
  | .doneSent => Sys2Proof.Machine.execDoneSent s
  | .callSent => Sys2Proof.Machine.execCallSent s
  | .blockSent => Sys2Proof.Machine.execBlockSent s
  | .eventSent => Sys2Proof.Machine.execEventSent s
  | .dataTimeout tag => Sys2Proof.Machine.execDataTimeout tag s
  | .tachPulse ns => Sys2Proof.Machine.execTachPulse ns s
  | .enterLocked => Sys2Proof.Machine.execEnterLocked s
  | .enterLost => Sys2Proof.Machine.execEnterLost s
  | .stallTimeout => Sys2Proof.Machine.execStallTimeout s
  | .spinupTimeout => Sys2Proof.Machine.execSpinupTimeout s
  | .retargetTimeout => Sys2Proof.Machine.execRetargetTimeout s
  | .silenceTimeout => Sys2Proof.Machine.execSilenceTimeout s
  | .idleTimeout => Sys2Proof.Machine.execIdleTimeout s
  | .stepTimerExpiry trk0 => Sys2Proof.Machine.execStepTimerExpiry trk0 s
  | .settleTimerExpiry trk0 => Sys2Proof.Machine.execSettleTimerExpiry trk0 s
  | .addressFieldEnd bits => Sys2Proof.Machine.execAddressFieldEnd bits s
  | .huntTimeout => Sys2Proof.Machine.execHuntTimeout s
  | .dataMarkTimeout => Sys2Proof.Machine.execDataMarkTimeout s
  | .dataReadEnd bits => Sys2Proof.Machine.execDataReadEnd bits s
  | .gap2End => Sys2Proof.Machine.execGap2End s
  | .written => Sys2Proof.Machine.execWritten s
  | .wprotChange active => Sys2Proof.Machine.execWprotChange active s
  | .resendTimeout => Sys2Proof.Machine.execResendTimeout s
  | .vretLoss => Sys2Proof.Machine.execVretLoss s

end Sys2Proof.Machine
end

