-- ==== Sys2Proof/Safety.lean ====
section
/-!
DEFINITION. The terms the statements use: the frames by kind, runs of lane bytes, the reports' forms, and the
invariants of a sound part (the laws of 05 R68, 10 R171, 11 R189 and 09 R158).
-/

namespace Sys2Proof.Machine

/-! ## Frames -/

/-- The command a request frame is (09 R159). -/
def requestFrame (tag : Tag) : Request → Instr
  | .read lba count flags => .read tag lba count flags
  | .write lba count flags => .write tag lba count flags
  | .verify lba count flags => .verify tag lba count flags
  | .format cylinder head flags => .format tag cylinder head flags
  | .reassign lba => .reassign tag lba
  | .recal => .recal tag
  | .spin mode => .spin tag mode

/-- The management frames, the kinds 20h to 2Ah (09 R158). -/
def managementFrame : Instr → Bool
  | .loadOpen .. | .loadPut .. | .loadClose _ | .loadDrop .. | .commit _ | .tableGet .. | .wipe _ => true
  | .query .. | .eventSet .. | .eventAck .. | .abort .. => true
  | .powerOn | .reset | .lrst _ | .resetRelease _ | .hiByte _ | .block .. => false
  | .read .. | .write .. | .verify .. | .format .. | .reassign .. | .recal _ | .spin .. => false
  | .noticeSent | .replySent | .doneSent | .callSent | .blockSent | .eventSent => false
  | .dataTimeout _ | .tachPulse _ | .enterLocked | .enterLost | .stallTimeout => false
  | .spinupTimeout | .retargetTimeout | .silenceTimeout | .idleTimeout => false
  | .stepTimerExpiry _ | .settleTimerExpiry _ | .addressFieldEnd _ | .huntTimeout => false
  | .dataMarkTimeout | .dataReadEnd _ | .gap2End | .written | .wprotChange _ => false
  | .resendTimeout | .vretLoss => false

/-- Bytes taken from HI one after the other, each as a HI_BYTE command with its start bit after `idle` idle bits (09
R153). -/
def feed (idle : Nat) : List Byte → State → Result
  | [], s => .next s
  | b :: bs, s =>
    match exec (.hiByte (List.replicate idle true ++ laneByte b)) s with
    | .next t => feed idle bs t
    | .fault f => .fault f
    | .refused r => .refused r

/-- A management frame would be routed: no reset asserted and fewer than four REPLYs unsent (09 R158). -/
def State.routes (s : State) : Prop := s.resetHeld = false ∧ s.arb.replies.length < 4

/-- The state with a record in another state of its own, appended to the tag table at the cost of a credit. -/
def State.withRecord (s : State) (tag : Tag) (req : Request) (st : ReqState) : State :=
  s.setQueue { s.queue with
    credits := s.queue.credits - 1, records := s.queue.records ++ [⟨tag, req, st, 0, none⟩] }

/-- A request frame would be accepted (05 R69). -/
def State.accepts (s : State) (tag : Tag) : Prop :=
  s.resetHeld = false ∧ s.queue.unsent.length < s.queue.credits ∧ tag ∉ s.queue.records.map (·.tag)

/-! ## Requests to the positioner and the spindle -/

/-- How the positioner takes the opening of POSITION for a cylinder: its state after it, and whether POSITION stays open
(08 R141, R144; 06 R94). -/
inductive PositionAsked (s : State) (cylinder : Nat) : Positioner → Bool → Prop where
  | there : s.pos.state = .idle cylinder → PositionAsked s cylinder s.pos false
  | inward (c : Nat) : s.pos.state = .idle c → c < cylinder →
      PositionAsked s cylinder { s.pos with
        state := .stepping (2 * c + 1) cylinder, phase := s.pos.phase + 1, energised := true
        stepTimer := some s.tables.stepMs, seeks := bump s.pos.seeks } true
  | outward (c : Nat) : s.pos.state = .idle c → cylinder < c →
      PositionAsked s cylinder { s.pos with
        state := .stepping (2 * c - 1) cylinder, phase := s.pos.phase - 1, energised := true
        stepTimer := some s.tables.stepMs, seeks := bump s.pos.seeks } true
  | unknown : s.pos.state = .unknown →
      PositionAsked s cylinder { s.pos with
        state := .recalibrating 0 255 s.tables.recalLimit, energised := true
        stepTimer := some s.tables.stepMs, recals := bump s.pos.recals } true
  | moving : s.pos.state ≠ .unknown → (∀ c, s.pos.state ≠ .idle c) →
      PositionAsked s cylinder { s.pos with held := some (.seek cylinder) } true

/-- How the spindle controller takes a speed request: its state after it, and whether the engine goes on waiting for
LOCKED (07 R130, R132). -/
inductive SpeedAsked (t : Tables) (rpm zone : Nat) (p : Spindle) : Spindle → Bool → Prop where
  | rest : p.state = .stopped ∨ p.state = .stopping →
      SpeedAsked t rpm zone p { p with
        state := .starting, target := some ⟨rpm, zone⟩, level := t.startLevel, framing := .waiting
        lastPeriod := 0, inBand := 0, spinupTimer := some t.spinupS, stopCause := none
        silenceTimer := false } true
  | climbing : p.state = .starting → SpeedAsked t rpm zone p { p with target := some ⟨rpm, zone⟩ } true
  | locked : p.state = .locked → p.rpm = rpm → SpeedAsked t rpm zone p { p with target := some ⟨rpm, zone⟩ } false
  | same : p.state = .retargeting ∨ p.state = .lost → p.rpm = rpm →
      SpeedAsked t rpm zone p { p with target := some ⟨rpm, zone⟩ } true
  | other : p.state = .locked ∨ p.state = .retargeting ∨ p.state = .lost → p.rpm ≠ rpm →
      SpeedAsked t rpm zone p { p with
        state := .retargeting, target := some ⟨rpm, zone⟩, inBand := 0, retargetTimer := some t.retargetS } true

/-- The rpm and zone a SPIN UP asks for (06 R113); the current cylinder is that of 05 R79. -/
inductive SpinUpAsks (s : State) : Nat → Nat → Prop where
  | unconfigured : s.tables.active = none → SpinUpAsks s 600 0
  | unknown (a : ActiveSet) (z : Zone) : s.tables.active = some a → a.zones[0]? = some z →
      s.pos.state.known = false → SpinUpAsks s z.rpm 0
  | within (a : ActiveSet) (zone : Nat) (z : Zone) : s.tables.active = some a → a.zones[zone]? = some z →
      s.pos.state.known = true → s.pos.state.currentCylinder < a.device.cylinders →
      s.tables.zoneOfCyl s.pos.state.currentCylinder = some zone → SpinUpAsks s z.rpm zone
  | beyond (a : ActiveSet) (zone : Nat) (z : Zone) : s.tables.active = some a → a.zones[zone]? = some z →
      s.pos.state.known = true → a.device.cylinders ≤ s.pos.state.currentCylinder →
      zone + 1 = a.zones.length → SpinUpAsks s z.rpm zone

/-! ## Passes and blocks -/

/-- The operation record of a request as the engine takes it (06 R91). -/
def freshOp (tag : Tag) (req : Request) (purpose : Purpose) : Op :=
  { tag := tag, req := req, stage := .translate, cursor := 0, placement := none, target := ⟨0, 0, 0, 0, 0⟩
    purpose := purpose, posOpen := false, speedOpen := false, pass := 1, failures := .none, faultCount := 0
    huntRevs := 0, huntFresh := false, awaitingRelock := false, blocksDone := 0, retriesUsed := 0
    recovered := false, reallocated := false, abortPending := false, failing := 0, chain := none }

/-- The data a write pass sends and a COMPARE checks against: zeros for a REASSIGN, else the block's page (03 R45, R47;
06 R97). -/
def blockRef (op : Op) (b : Buffer) : DataRef :=
  match op.req with
  | .reassign _ => .zeros
  | .read .. | .write .. | .verify .. | .format .. | .recal | .spin _ => .page ((b.pageOf op.tag op.cursor).getD 0)

/-- What the codec is armed with in a pass; none where it is given TRACK_WRITE (06 R97, R110, R112). -/
def armedAction (op : Op) (b : Buffer) : Option Action :=
  match op.purpose with
  | .read => some (.read ((b.pageOf op.tag op.cursor).getD 0))
  | .write => some (.write (blockRef op b))
  | .compare => some (.compare (blockRef op b))
  | .discard | .formatVerify _ => some .discard
  | .trackWrite => none

/-- The hunt target: the sector of the block, or sector `k` of the track a FORMAT verifies (06 R97, R112). -/
def armedTarget (op : Op) : SectorId :=
  let sector := match op.purpose with
    | .formatVerify k => k
    | .read | .discard | .write | .compare | .trackWrite => op.target.sector
  ⟨op.target.cylinder, op.target.head, sector, op.target.zone⟩

/-- The pass of `op` has begun from `u`, whose codec is IDLE: it hunts, with hunt revolutions from 0 and the revolution
in progress not counted, or waits for the start pulse of a track write (06 R97, R98, R105, R110). -/
def passBegun (op : Op) (u : State) : State :=
  match armedAction op u.buffer with
  | some action =>
    (u.setEngine { u.engine with op := some { op with
      stage := match op.purpose with
        | .compare | .formatVerify _ => .verify
        | .read | .discard | .write | .trackWrite => .hunt
      huntRevs := 0, huntFresh := decide (u.spindle.framing = .off ∨ u.spindle.framing = .waiting) } }).setCodec
    { u.codec with
      mode := .hunt (armedTarget op) action, stopHeld := false, head := op.target.head, reader := .clear }
  | none =>
    (u.setEngine { u.engine with op := some { op with stage := .trackWrite, huntRevs := 0 } }).setCodec { u.codec with
      mode := .trackWrite op.target.cylinder op.target.head op.target.zone .waiting
      stopHeld := false, head := op.target.head }

/-- A page after the end of the request under `tag`: FREE if it is FILLING for it (04 R63 step 1). -/
def unfilled (tag : Tag) (page : Page) : Page :=
  match page.use with
  | .filling owner _ => if owner = tag then { page with use := .free } else page
  | .free | .full .. | .sending .. => page

/-- The engine has made its end report for `op` from `u`: a READ frees the pages it still fills, with a grant decision,
and stays in DRAIN while it owns a page; without one, and for every other kind, its DONE is produced (05 R87; 04 R63; 06
R118). -/
def ended (op : Op) (report : DoneReport) (u : State) : State :=
  if op.req.isRead = true then
    let v := grant (u.setBuffer { u.buffer with pages := u.buffer.pages.map (unfilled op.tag) })
    if ∃ page ∈ v.buffer.pages, page.use.owner? = some op.tag then
      (v.setQueue { v.queue with records := v.queue.records.map fun r =>
          if r.tag = op.tag then { r with endReport := some report } else r }).setEngine
        { v.engine with op := some { op with stage := .drain, placement := none } }
    else produceDone op.tag report v
  else produceDone op.tag report u

/-- The engine holds `op` in `u` while its POSITION or SPEED is open; with both closed its pass begins, a write only with
the write-protect sense inactive, else the request ends WRITE_PROTECTED (06 R96, R97, R110). -/
def passOrWait (op : Op) (u : State) : State :=
  if op.posOpen = true ∨ op.speedOpen = true then u.setEngine { u.engine with op := some op }
  else if u.pins.wprot = true ∧ (op.purpose = .write ∨ op.purpose = .trackWrite) then
    ended op ⟨.writeProtected, op.blocksDone, op.retriesUsed, none, none⟩ u
  else passBegun op u

/-- From `u`, POSITION and SPEED are opened for the target of `op`; `t` is the state after it. A pass that begins at once
needs the codec IDLE (06 R94 to R97). -/
def Opens (u t : State) (op : Op) : Prop :=
  ∀ pos spindle posOpen speedOpen, PositionAsked u op.target.cylinder pos posOpen →
    SpeedAsked u.tables op.target.rpm op.target.zone u.spindle spindle speedOpen →
    posOpen = true ∨ speedOpen = true ∨ u.codec.mode = .idle →
    t = passOrWait { op with stage := .positionSpeed, posOpen := posOpen, speedOpen := speedOpen }
      ((u.setPos pos).setSpindle spindle)

/-- The engine takes the block at the cursor of `op` from `u`, whose codec is IDLE: a WRITE into a WRITE_LOCK zone, or
with the write-protect sense active, ends WRITE_PROTECTED with nothing asked; otherwise POSITION and SPEED are opened
for the block's placement. `t` is the state after it, before any selection (06 R93, R108; 02 R36). -/
def BlockBegins (u t : State) (op : Op) : Prop :=
  let p := u.tables.placement (op.req.firstLba + op.cursor)
  let barred := op.req.isWrite = true ∧ (p.writeLock = true ∨ u.pins.wprot = true)
  (barred → t = produceDone op.tag ⟨.writeProtected, op.blocksDone, op.retriesUsed, none, none⟩ u) ∧
  (¬ barred → Opens u t { op with
    stage := .positionSpeed, placement := some p
    target := ⟨p.cylinder, p.head, p.sector, p.zone, p.rpm⟩
    purpose := match op.req with
      | .read .. => .read
      | .verify .. => .discard
      | .write .. | .format .. | .reassign _ | .recal | .spin _ => .write })

/-- The block at the cursor of `op` is complete in `u`, whose codec is IDLE: after the last block the request ends, with
an abort pending it ends ABORTED with the blocks done, and otherwise its next block begins with counts of its own. `t`
is the state after it, before any selection (06 R92; 05 R85, R88). -/
def BlockDone (u t : State) (op : Op) : Prop :=
  let counted := { op with
    blocksDone := op.blocksDone + 1, recovered := op.recovered || decide (op.failures ≠ .none), chain := none }
  let ends := fun (status : Status) =>
    t = ended counted ⟨status, op.blocksDone + 1, op.retriesUsed, none, none⟩ u
  (op.req.blocks ≤ op.cursor + 1 →
    ends (if op.reallocated = true then .okReallocated else if counted.recovered = true then .okRecovered else .ok)) ∧
  (op.cursor + 1 < op.req.blocks → op.abortPending = true → ends .aborted) ∧
  (op.cursor + 1 < op.req.blocks → op.abortPending = false → BlockBegins u t { counted with
    cursor := op.cursor + 1, pass := 1, failures := .none, faultCount := 0, huntRevs := 0, placement := none })

/-- The command `i` ends the field that the codec reads in `s` for `action`, and not well: no data mark, a decode fault,
a CRC that does not match, or a COMPARE whose data differ. `data` are the bytes decoded, and `faults` is the
decode-fault counter after it (01 R13, R14, R21). -/
inductive FieldFails (s : State) (action : Action) : Instr → List Byte → Counter → Prop where
  | markTimeout : s.codec.reader.field = none →
      FieldFails s action .dataMarkTimeout [] (bump s.codec.decodeFaults)
  | noMark (bits : List Bool) : readData s.tables.inverse s.codec.reader bits = .noMark →
      FieldFails s action (.dataReadEnd bits) [] (bump s.codec.decodeFaults)
  | decodeFault (bits : List Bool) (data : List Byte) :
      readData s.tables.inverse s.codec.reader bits = .fault data →
      FieldFails s action (.dataReadEnd bits) data (bump s.codec.decodeFaults)
  | badCheck (bits : List Bool) (data : List Byte) :
      readData s.tables.inverse s.codec.reader bits = .whole data false →
      FieldFails s action (.dataReadEnd bits) data s.codec.decodeFaults
  | differs (bits : List Bool) (data : List Byte) (ref : DataRef) :
      readData s.tables.inverse s.codec.reader bits = .whole data true → action = .compare ref →
      data ≠ s.refData ref → FieldFails s action (.dataReadEnd bits) data s.codec.decodeFaults

/-- What the bit cells that come together with an LRST have done before it: nothing outside HUNT and short of a field's
end; a field that ends is counted, passed over, or its fault report makes a known position UNKNOWN with POSITION_FAULT,
and the engine asks for no recalibration (01 R11, R21; 06 R99, R120; 08 R148). -/
inductive TakenBeforeReset (s : State) (bits : List Bool) : State → Prop where
  | noHunt : (∀ target action, s.codec.mode ≠ .hunt target action) → TakenBeforeReset s bits s
  | unended (target : SectorId) (action : Action) (reader : Reader) : s.codec.mode = .hunt target action →
      readAddress s.tables.inverse s.codec.reader bits = .more reader → TakenBeforeReset s bits s
  | decodeFault (target : SectorId) (action : Action) : s.codec.mode = .hunt target action →
      readAddress s.tables.inverse s.codec.reader bits = .fault →
      TakenBeforeReset s bits (s.setCodec { s.codec with decodeFaults := bump s.codec.decodeFaults })
  | badCheck (target : SectorId) (action : Action) : s.codec.mode = .hunt target action →
      readAddress s.tables.inverse s.codec.reader bits = .badCheck →
      TakenBeforeReset s bits (s.setCodec { s.codec with addrErrors := bump s.codec.addrErrors })
  | onTrack (target id : SectorId) (action : Action) : s.codec.mode = .hunt target action →
      readAddress s.tables.inverse s.codec.reader bits = .good id →
      (id = target ∨ ∀ op, s.engine.op = some op → op.stage ≠ .drain →
        id.cylinder = op.target.cylinder ∧ id.head = op.target.head) → TakenBeforeReset s bits s
  | reported (target id : SectorId) (action : Action) (op : Op) (c : Nat) : s.codec.mode = .hunt target action →
      readAddress s.tables.inverse s.codec.reader bits = .good id → id ≠ target → s.engine.op = some op →
      op.stage ≠ .drain → (id.cylinder ≠ op.target.cylinder ∨ id.head ≠ op.target.head) → s.pos.state = .idle c →
      TakenBeforeReset s bits
        (raiseEvent .positionFault (BitVec.ofNat 24 c) (s.setPos { s.pos with state := .unknown }))
  | unheld (target : SectorId) (action : Action) : s.codec.mode = .hunt target action →
      (∃ id, readAddress s.tables.inverse s.codec.reader bits = .good id) → (∀ c, s.pos.state ≠ .idle c) →
      TakenBeforeReset s bits s

/-! ## The spindle's reports -/

/-- The engine is told of the entry to LOCKED that stands in `u`; `t` is the state after it (06 R95, R107, R111, R113).
A track write is given again without asking the write-protect sense (log entry 33). -/
def LockTold (u t : State) : Prop :=
  (u.engine.op = none → t = u) ∧
  ∀ op, u.engine.op = some op →
    let awaits := op.stage = .spinWait ∨ op.stage = .positionSpeed ∧ op.speedOpen = true ∨ op.awaitingRelock = true
    (¬ awaits ∨ op.stage = .drain ∨ u.spindle.rpm ≠ op.target.rpm → t = u) ∧
    (u.spindle.rpm = op.target.rpm →
      (op.req = .spin 1 → op.stage = .spinWait →
        t = produceDone op.tag ⟨.ok, op.blocksDone, op.retriesUsed, none, none⟩ u) ∧
      ((∀ mode, op.req ≠ .spin mode) →
        (op.stage = .positionSpeed → op.speedOpen = true → op.posOpen = true ∨ u.codec.mode = .idle →
          t = passOrWait { op with speedOpen := false } u) ∧
        (op.stage = .hunt ∨ op.stage = .transfer ∨ op.stage = .verify ∨ op.stage = .trackWrite →
          op.awaitingRelock = true → op.posOpen = false → op.speedOpen = false → u.codec.mode = .idle →
          (op.purpose ≠ .trackWrite → t = passOrWait { op with awaitingRelock := false } u) ∧
          (op.purpose = .trackWrite → t = passBegun { op with awaitingRelock := false } u))))

/-- The codec and the engine see the spindle leave LOCKED in `u`; `t` is the state after it. A codec at work drops a
raised gate or abandons its field, and the pass is suspended without being counted; a SPEED that had closed is open
again (01 R20; 06 R96, R107). -/
def LossTold (u t : State) : Prop :=
  let dropped := u.setCodec { u.codec with mode := .idle, stopHeld := false, reader := .clear, wdata := [] }
  (u.engine.op = none → t = if u.codec.mode = .idle then u else dropped) ∧
  ∀ op, u.engine.op = some op →
    (u.codec.mode = .idle → op.stage ≠ .positionSpeed → t = u) ∧
    (u.codec.mode = .idle → op.stage = .positionSpeed →
      t = u.setEngine { u.engine with op := some { op with speedOpen := true } }) ∧
    (u.codec.mode ≠ .idle → op.stage = .drain → t = dropped) ∧
    (u.codec.mode ≠ .idle → op.stage ≠ .drain →
      t = dropped.setEngine { u.engine with op := some { op with
          stage := match op.purpose with
            | .read | .discard | .write => .hunt
            | .compare | .formatVerify _ => .verify
            | .trackWrite => .trackWrite
          awaitingRelock := true, huntRevs := 0 } })

/-- The engine is told of a closed revolution: while the codec hunts it counts it, up to hunt_revs, but for the one in
progress at the arming (06 R98; 07 R121 step 3). -/
def revolutionTold (u : State) : State :=
  let hunts := match u.codec.mode with
    | .hunt .. => true
    | .idle | .dataRead .. | .dataWrite .. | .trackWrite .. => false
  u.setEngine { u.engine with op := u.engine.op.map fun op =>
    if hunts = false ∨ op.stage = .drain then op
    else if op.huntFresh = true then { op with huntRevs := min u.tables.huntRevs (op.huntRevs + 1) }
    else { op with huntFresh := true } }

/-- A revolution of period `m` closes in `u`, whose spindle turns: deviation and control law, then the lock or loss
count, the entry to LOCKED or LOST that the count completes, with what the codec and the engine do at it, and last the
report to the engine. SPIN_LOST carries the rounded deviation of that revolution. `t` is the state after it (07 R121 to
R128, R132, R135). -/
def RevolutionClosed (m : Nat) (u t : State) : Prop :=
  let e : Int := m * ((u.spindle.target.map (·.rpm)).getD 0 : Nat) - 60000000
  let rounded := (e.natAbs + 300000) / 600000
  let move := max 1 (min 16 rounded)
  let level := if e.natAbs ≤ 300000 then u.spindle.level
    else if 0 < e then min 255 (u.spindle.level + move) else u.spindle.level - move
  let closed := { u.spindle with lastPeriod := m, level := level }
  let counts := fun (p : Spindle) => t = revolutionTold (u.setSpindle p)
  let lost := raiseEvent .spinLost
    (BitVec.ofInt 24 (if 0 ≤ e then (min 127 rounded : Nat) else -(min 128 rounded : Nat)))
    (u.setSpindle { closed with
      state := .lost, inBand := 0, outBand := 2, retargetTimer := some u.tables.retargetS })
  let locked := raiseEvent .spinLocked (BitVec.ofNat 24 ((u.spindle.target.map (·.zone)).getD 0))
    (u.setSpindle { closed with
      state := .locked, inBand := 4, outBand := 0, spinupTimer := none, retargetTimer := none })
  (u.spindle.state = .locked →
    (e.natAbs ≤ 1800000 → counts { closed with outBand := 0 }) ∧
    (1800000 < e.natAbs → u.spindle.outBand = 0 → counts { closed with outBand := 1 }) ∧
    (1800000 < e.natAbs → 1 ≤ u.spindle.outBand → ∃ v, LossTold lost v ∧ t = revolutionTold v)) ∧
  (u.spindle.state ≠ .locked →
    (600000 < e.natAbs → counts { closed with inBand := 0 }) ∧
    (e.natAbs ≤ 600000 → u.spindle.inBand < 3 → counts { closed with inBand := u.spindle.inBand + 1 }) ∧
    (e.natAbs ≤ 600000 → 3 ≤ u.spindle.inBand → ∃ v, LockTold locked v ∧ t = revolutionTold v))

/-- The spindle controller takes a TACH pulse in `u`, `ns` after the one before it: ignored in STOPPED; in STOPPING it
restarts the silence timer; elsewhere it is framed, and the 32nd closes a revolution. `t` is the state after it (07 R121,
R129). -/
def PulseCounted (ns : Nat) (u t : State) : Prop :=
  let framed := fun (f : Framing) => u.setSpindle { u.spindle with framing := f }
  (u.spindle.state = .stopped → t = u) ∧
  (u.spindle.state = .stopping → t = u.setSpindle { u.spindle with silenceTimer := true }) ∧
  (u.spindle.state ≠ .stopped → u.spindle.state ≠ .stopping →
    (u.spindle.framing = .off → t = u) ∧
    (u.spindle.framing = .waiting → t = framed (.running 0 0)) ∧
    ∀ k time, u.spindle.framing = .running k time →
      (k < 31 → t = framed (.running (k + 1) (time + ns))) ∧
      (31 ≤ k → RevolutionClosed ((time + ns) / 1000) (framed (.running 0 0)) t))

/-- The pulse TACH_PULSE brings to `s` has left `u` once the codec took it: the spindle controller takes it from there,
and a selection comes last where the pulse has ended the request (07 R121; 05 R78; log entry 9). -/
def PulseGoesOn (ns : Nat) (s u : State) : Prop :=
  ∃ t, PulseCounted ns u t ∧
    exec (.tachPulse ns) s = .next (if s.engine.op.isSome = true ∧ t.engine.op = none then schedule t else t)

/-! ## The reallocation chain -/

/-- Slot `k` is the lowest-numbered FREE slot of a zone (03 R46). -/
def LowestFree (t : Tables) (zone k : Nat) : Prop :=
  ∃ row, t.slots[zone]? = some row ∧ row.states[k]? = some .free ∧ ∀ j < k, row.states[j]? ≠ some .free

/-- A zone has no FREE slot (03 R46). -/
def NoneFree (t : Tables) (zone : Nat) : Prop :=
  ∀ row, t.slots[zone]? = some row → .free ∉ row.states

/-- A trial of slot `k` has begun from `u` for the operation `op` with the chain record `chain`: a write pass to the
slot, of zeros for a REASSIGN and of the block's page for a WRITE. `t` is the state after it (03 R45 to R47). -/
def OnTrial (u t : State) (op : Op) (chain : Chain) (k : Nat) : Prop :=
  let l := u.tables.slotLocation chain.zone k
  Opens u t { op with
    purpose := .write, pass := 1, chain := some { chain with slot := some k }
    target := ⟨l.cylinder, l.head, l.sector, chain.zone, (u.tables.zoneAt chain.zone).rpm⟩ }

/-- The map and slots have just changed for the chain of `lba` in a zone: MAP_GROWN is raised, then SPARES_LOW when the
zone's free count is at most spare_low (03 R52). -/
def grownEvents (lba zone : Nat) (u : State) : State :=
  let e := raiseEvent .mapGrown (BitVec.ofNat 24 lba) u
  if ((u.tables.slots[zone]?).map (·.free)).getD 0 ≤ u.tables.spareLow then
    raiseEvent .sparesLow (BitVec.ofNat 24 zone) e
  else e

/-- The codec not in a track write. -/
def CodecMode.noTrack : CodecMode → Bool
  | .trackWrite .. => false
  | .idle | .hunt .. | .dataRead .. | .dataWrite .. => true

/-! ## Invariants -/

/-- Law 1 of 05 R68, with distinct tags (05 R67) and an operation only for a tag in use (05 R83). -/
structure Balanced (s : State) : Prop where
  distinct : (s.queue.records.map (·.tag)).Nodup
  sum : s.queue.records.length + s.queue.credits = 8
  working : ∀ op, s.engine.op = some op → op.tag ∈ s.queue.records.map (·.tag)

/-- Law 11 of 11 R189; nothing waits unoffered (11 R191); no mask bit beyond the eleven kinds (11 R194). -/
structure EventsSound (s : State) : Prop where
  distinct : (s.events.queue.map (·.kind)).Nodup
  offered : s.events.outstanding = none ↔ s.events.queue = []
  mask : s.events.mask &&& 0xF800 = 0

/-- CONFIGURED exactly when the generation is not 0 (10 R171); at most four REPLYs unsent (09 R158); 32 pages (04
R54). -/
structure StoreSound (s : State) : Prop where
  configured : s.tables.active = none ↔ s.tables.generation = 0
  replies : s.arb.replies.length ≤ 4
  pages : s.buffer.pages.length = 32

end Sys2Proof.Machine
end

