-- ==== Sys2Proof/Certificates/Slice0/Obligations.lean ====
section
/-!
DEFINITION. The statements about the DF412. Where a statement ends in `arbitrate`, `grant`, `schedule` or
`raiseEvent`, the choice that follows the command's own effect is stated once, in ArbiterChoice, GrantDecision,
SelectionBegins with the choice rules, and EventRaised.
-/

section

open Sys2Proof Sys2Proof.Machine

/-! ## The step and the reset state -/

/-- The command at the front of the queue is executed with the queue's rest; with none waiting nothing changes (log
entry 2: the model's own queue). Every command of every state answers a next state. -/
def Obligations.StepTakesFront : Prop :=
  (∀ (s : State) (c : Instr) (rest : List Instr), s.pending = c :: rest → step s = exec c (s.setPending rest)) ∧
  (∀ s : State, s.pending = [] → step s = .next s) ∧
  ∀ (c : Instr) (s : State), ∃ t, exec c s = .next t

/-- What power-on leaves in each block after a COLD start (05 R90, 04 R66, 06 R120, 01 R22, 07 R137, 08 R152, 10 R184,
11 R197, 09 R169, R170). Where the manual leaves a value open the state is the model's choice (log entries 3, 14, 15,
26) and is not stated here. -/
def Obligations.ResetStateHolds : Prop :=
  State.reset.queue.records = [] ∧ State.reset.queue.credits = 8 ∧ State.reset.queue.unsent = [] ∧
  State.reset.queue.direction = .inward ∧
  State.reset.buffer.pages.length = 32 ∧ (∀ p ∈ State.reset.buffer.pages, p.use = .free) ∧
  State.reset.buffer.fifo = [] ∧ State.reset.buffer.writes = [] ∧
  State.reset.engine.op = none ∧ State.reset.codec.mode = .idle ∧ State.reset.codec.wgate = false ∧
  State.reset.codec.reader = ⟨0, 0, none⟩ ∧ State.reset.codec.stopHeld = false ∧
  (∀ n, State.reset.codec.wdataLevel n = true) ∧
  State.reset.spindle.state = .stopped ∧ State.reset.spindle.level = 0 ∧ State.reset.spindle.target = none ∧
  State.reset.pos.state = .unknown ∧ State.reset.pos.phase = 0 ∧ State.reset.pos.energised = false ∧
  State.reset.tables.active = none ∧ State.reset.tables.generation = 0 ∧ State.reset.tables.start = .cold ∧
  State.reset.tables.staging = .reset ∧ State.reset.tables.session = none ∧ State.reset.tables.capacity = 0 ∧
  State.reset.events.queue = [] ∧ State.reset.events.mask = 0x07FF ∧ State.reset.events.sequence = 0 ∧
  State.reset.events.outstanding = none ∧ State.reset.link.rx = .hunt ∧
  (∀ c ∈ State.reset.counters, c = 0) ∧
  State.reset.arb.ho = some (.notice ⟨.power, .cold, 0, 8, 0⟩)

/-- The invariants hold right after power-on. -/
def Obligations.SoundAtReset : Prop :=
  Balanced State.reset ∧ EventsSound State.reset ∧ StoreSound State.reset

/-! ## Invariants and whole-machine rules -/

/-- Law 1: the tags in use plus the credit balance equal 8 after every step (05 R68), tags stay distinct (05 R67), and
the engine works only for a tag in use. -/
def Obligations.BalancedKept : Prop := ∀ s t : State, Balanced s → step s = .next t → Balanced t

/-- Law 11: the event queue holds at most one record of each kind after every step (11 R189), and a queued record is
never left unoffered (11 R191). -/
def Obligations.EventsSoundKept : Prop := ∀ s t : State, EventsSound s → step s = .next t → EventsSound t

/-- CONFIGURED exactly while the generation is not 0 (10 R171), at most four REPLYs unsent (09 R158), 32 pages (04
R54): kept by every step. -/
def Obligations.StoreSoundKept : Prop := ∀ s t : State, StoreSound s → step s = .next t → StoreSound t

/-- Law 5, raising: whatever the command, the write gate goes up only with the spindle LOCKED at the speed of the
armed zone, that zone free of WRITE_LOCK in the active zone table, the write-protect sense inactive and, for a track
write, the positioner IDLE at the named cylinder (01 R15). -/
def Obligations.GateRaisedOnlyWhenAllowed : Prop :=
  ∀ s t : State, step s = .next t → s.codec.wgate = false → t.codec.wgate = true →
    t.pins.wprot = false ∧
    ∃ zone, zone < t.tables.zones.length ∧ t.lockedAt (t.tables.zoneAt zone).rpm = true ∧
      (t.tables.zoneAt zone).writeLock = false ∧
      ((∃ target ref n crc, t.codec.mode = .dataWrite target ref (.sending n crc) ∧ target.zone = zone) ∨
        ∃ c h pulses ns sectors, t.codec.mode = .trackWrite c h zone (.running pulses ns sectors) ∧
          t.pos.state = .idle c)

/-! ## Request frames (05) -/

/-- A request frame. Without a credit known to the host, or with a tag in use, it only raises the refused-request
counter. Otherwise it takes a credit and a tag. One that fails a check ends at once with that check's status, blocks
done 0 and retries used 0, and its DONE returns the credit. READ and WRITE that pass their checks enter AWAIT_PAGES at
the tail of the page-wait FIFO and a grant decision follows; the other kinds enter READY. A selection follows. -/
def Obligations.RequestFrameTaken : Prop :=
  ∀ (s : State) (tag : Tag) (req : Request),
    (s.resetHeld = false → (s.queue.credits ≤ s.queue.unsent.length ∨ tag ∈ s.queue.records.map (·.tag)) →
      exec (requestFrame tag req) s = .next (s.setQueue { s.queue with refused := bump s.queue.refused })) ∧
    (s.accepts tag →
      (∀ status, acceptanceCheck s.tables req = some status →
        exec (requestFrame tag req) s =
          .next (schedule (produceDone tag ⟨status, 0, 0, none, none⟩ (s.withRecord tag req .accepted)))) ∧
      (acceptanceCheck s.tables req = none →
        (∀ lba count flags, req ≠ .read lba count flags ∧ req ≠ .write lba count flags) →
        exec (requestFrame tag req) s = .next (schedule (s.withRecord tag req .ready))) ∧
      ∀ lba count flags, acceptanceCheck s.tables req = none →
        (req = .read lba count flags ∨ req = .write lba count flags) →
        exec (requestFrame tag req) s =
          .next (schedule (grant ((s.withRecord tag req .awaitPages).setBuffer
            { s.buffer with fifo := s.buffer.fifo ++ [tag] }))))

/-- The acceptance checks of 05 R71, in the table's order: the first that fails decides. -/
def Obligations.AcceptanceChecksInOrder : Prop :=
  ∀ (t : Tables) (req : Request),
    acceptanceCheck t req =
      (((match req with
        | .read lba count flags | .verify lba count flags =>
          [(t.active.isNone, Status.notConfigured), (decide (count.toNat < 1 ∨ 16 < count.toNat), .badField),
            (decide (flags.toNat ≠ 0), .badField),
            (decide (lba.toNat + count.toNat > (t.zoneRecs.map ZoneRec.dataCapacity).sum), .lbaRange)]
        | .write lba count flags =>
          [(t.active.isNone, .notConfigured), (decide (count.toNat < 1 ∨ 16 < count.toNat), .badField),
            (decide (flags.toNat ≠ 0 ∧ flags.toNat ≠ 1), .badField),
            (decide (lba.toNat + count.toNat > (t.zoneRecs.map ZoneRec.dataCapacity).sum), .lbaRange)]
        | .format cylinder head flags =>
          [(t.active.isNone, .notConfigured), (decide (flags.toNat ≠ 0 ∧ flags.toNat ≠ 1), .badField),
            (decide (¬ (cylinder.toNat < (t.active.map (·.device.cylinders)).getD 0 ∧ head.toNat ≤ 1)),
              .badField)]
        | .reassign lba =>
          [(t.active.isNone, .notConfigured),
            (decide (¬ lba.toNat < (t.zoneRecs.map ZoneRec.dataCapacity).sum), .lbaRange)]
        | .recal => []
        | .spin mode => [(decide (mode.toNat ≠ 1 ∧ mode.toNat ≠ 2), .badField)] ) : List (Bool × Status)).findSome?
        fun c => if c.1 then some c.2 else none)

/-- The data timer's expiry in AWAIT_DATA ends the request DATA_TIMEOUT with blocks done 0 and retries used 0; its
write-data record goes and its pages are freed with its DONE. -/
def Obligations.DataTimeoutEnds : Prop :=
  ∀ (s : State) (tag : Tag) (r : Record) (w : WriteData),
    s.queue.records.find? (·.tag == tag) = some r → r.state = .awaitData →
    s.buffer.writes.find? (·.tag == tag) = some w → w.timer.isSome = true →
    exec (.dataTimeout tag) s =
      .next (schedule (produceDone tag ⟨.dataTimeout, 0, 0, none, none⟩
        ((s.setBuffer { s.buffer with writes := s.buffer.writes.filter (·.tag != tag) }).setArb
          { s.arb with doneCall := s.arb.doneCall.filter (· != .call tag) })))

/-- Producing a DONE: queued behind the DONE and CALL frames, listed unsent, the record gone, the credit back, the
pages freed with a grant decision, the engine IDLE if it worked for the tag. -/
def Obligations.DoneProduced : Prop :=
  ∀ (s : State) (tag : Tag) (report : DoneReport),
    produceDone tag report s =
      let a := arbitrate (s.setArb { s.arb with doneCall := s.arb.doneCall ++ [.done tag report] })
      let b := grant ((a.setQueue { s.queue with
          records := s.queue.records.filter (·.tag != tag), credits := s.queue.credits + 1
          unsent := s.queue.unsent ++ [tag] }).setBuffer
        { a.buffer with pages := a.buffer.pages.map fun p =>
            if p.use.owner? = some tag then { p with use := .free } else p })
      b.setEngine (if b.engine.op.map (·.tag) = some tag then { b.engine with op := none } else b.engine)

/-! ## Pages and BLOCK frames (04) -/

/-- The grant decision: the head of the FIFO waits while fewer than n pages are FREE; otherwise it takes n pages and
leaves the FIFO, a READ becoming READY, a WRITE AWAIT_DATA with its CALL, and the decision repeats. A grant of n takes
the n lowest FREE pages, giving the k-th of them block index k; every other page, and all data, is left. -/
def Obligations.GrantDecision : Prop :=
  (∀ s : State, s.buffer.fifo = [] → grant s = s) ∧
  (∀ (s : State) (tag : Tag) (rest : List Tag) (r : Record),
    s.buffer.fifo = tag :: rest → s.queue.find tag = some r →
    (s.buffer.freePages.length < r.req.blocks → grant s = s) ∧
    (r.req.blocks ≤ s.buffer.freePages.length → r.req.isRead = true →
      grant s = grant ((s.setBuffer { s.buffer with
        pages := assignFree tag r.req.blocks 0 s.buffer.pages, fifo := rest }).setReqState tag .ready)) ∧
    (r.req.blocks ≤ s.buffer.freePages.length → r.req.isRead = false →
      grant s = grant (arbitrate (((s.setBuffer { s.buffer with
          pages := assignFree tag r.req.blocks 0 s.buffer.pages, fifo := rest
          writes := s.buffer.writes ++ [⟨tag, [], .queued, none⟩] }).setReqState tag .awaitData).setArb
        { s.arb with doneCall := s.arb.doneCall ++ [.call tag] })))) ∧
  ∀ (tag : Tag) (n : Nat) (pages : List Page) (p : Nat) (page : Page), pages[p]? = some page →
    (assignFree tag n 0 pages)[p]? =
      some (if page.use = .free ∧ (pages.take p).countP (fun q => q.use == .free) < n then
        { page with use := .filling tag ((pages.take p).countP fun q => q.use == .free) } else page)

/-- A BLOCK frame for a WRITE in AWAIT_DATA, with an index below the count and not yet received, fills its page; the
last one makes the WRITE READY. Any other BLOCK frame only raises the discard counter. -/
def Obligations.BlockTaken : Prop :=
  ∀ (s : State) (tag : Tag) (index : Byte) (data : List Byte), s.resetHeld = false → data.length = 512 →
    (∀ (r : Record) (w : WriteData) (p : Nat),
      s.queue.find tag = some r → r.state = .awaitData → index.toNat < r.req.blocks →
      s.buffer.writeOf tag = some w → index.toNat ∉ w.received → s.buffer.pageOf tag index.toNat = some p →
      let s1 := s.setBuffer { s.buffer with
        pages := modifyAt s.buffer.pages p fun _ => ⟨.full tag index.toNat, data⟩
        writes := s.buffer.writes.map fun x =>
          if x.tag = tag then { x with received := x.received ++ [index.toNat] } else x }
      exec (.block tag index data) s =
        .next (if w.received.length + 1 = r.req.blocks then schedule ((s1.leaveAwaitData tag).setReqState tag .ready)
          else s1)) ∧
    ((¬ ∃ r w, s.queue.find tag = some r ∧ r.state = .awaitData ∧ index.toNat < r.req.blocks ∧
        s.buffer.writeOf tag = some w ∧ index.toNat ∉ w.received) →
      exec (.block tag index data) s = .next (s.setBuffer { s.buffer with discards := bump s.buffer.discards }))

/-! ## Selection (05) -/

/-- With the engine busy or nothing eligible there is no selection. Otherwise the choice is made from the current
cylinder: the position held, the target of a movement, or 0 while the position is unknown or being recalibrated. The
chosen request becomes ACTIVE, the direction is the choice's, each eligible record older than it gains a pass, and the
engine begins it; when it ends as it begins, the engine is IDLE again and a further selection is made. -/
def Obligations.SelectionBegins : Prop :=
  ∀ s : State,
    let es := eligibleFrom [] s.queue.records
    let current := match s.pos.state with
      | .idle c => c
      | .stepping _ target | .settling target _ => target
      | .unknown | .recalibrating .. => 0
    (s.engine.op.isSome = true ∨ es = [] → schedule s = s) ∧
    ∀ (r : Record) (d : Direction) (older younger : List Record), s.engine.op = none →
      choose s.tables current s.queue.direction es = some (r, d) → es = older ++ r :: younger →
      (∀ o ∈ older, o.tag ≠ r.tag) →
      let s1 := s.setQueue { s.queue with
        direction := d
        records := s.queue.records.map fun x =>
          if x.tag = r.tag then { x with state := .active }
          else if x.tag ∈ older.map (·.tag) then { x with passCount := min 255 (x.passCount + 1) }
          else x }
      ((beginOp r.tag r.req s1).engine.op.isSome = true → schedule s = beginOp r.tag r.req s1) ∧
      ((beginOp r.tag r.req s1).engine.op = none → schedule s = schedule (beginOp r.tag r.req s1))

/-- The eligible records, oldest first, are those in READY with no older conflicting record, no older barrier, and,
for a barrier, no older record at all. -/
def Obligations.EligibilityRule : Prop :=
  ∀ records : List Record, (eligibleFrom [] records).Sublist records ∧
    ∀ r : Record, r ∈ eligibleFrom [] records ↔
      ∃ older younger, records = older ++ r :: younger ∧ r.state = .ready ∧
        (∀ o ∈ older, o.req.isBarrier = false) ∧ (r.req.isBarrier = true → older = []) ∧
        ∀ o ∈ older, ¬ ((o.req.isWrite = true ∨ r.req.isWrite = true) ∧
          ∃ lba, o.req.firstLba ≤ lba ∧ lba < o.req.firstLba + o.req.blocks ∧
            r.req.firstLba ≤ lba ∧ lba < r.req.firstLba + r.req.blocks)

/-- The choice among the eligible requests: there is one exactly when some request is eligible. The oldest promoted
request is chosen first, then a barrier, both with the direction left. Otherwise the elevator takes the nearest target
in its direction, the oldest among equals; with no candidate there the direction reverses. A target is the cylinder of
the placement of the request's first LBA. -/
def Obligations.ChoiceAmongEligible : Prop :=
  ∀ (t : Tables) (current : Nat) (d : Direction) (es : List Record),
    ((choose t current d es).isSome = true ↔ es ≠ []) ∧
    (∀ older r younger, es = older ++ r :: younger → 8 ≤ r.passCount → (∀ o ∈ older, o.passCount < 8) →
      choose t current d es = some (r, d)) ∧
    (∀ older r younger, es = older ++ r :: younger → (∀ o ∈ es, o.passCount < 8) → r.req.isBarrier = true →
      (∀ o ∈ older, o.req.isBarrier = false) → choose t current d es = some (r, d)) ∧
    ∀ (r : Record) (e : Direction), (∀ o ∈ es, o.passCount < 8 ∧ o.req.isBarrier = false) →
      choose t current d es = some (r, e) →
      let target := fun (o : Record) => (t.placement o.req.firstLba).cylinder
      let side := fun (x : Direction) (o : Record) => match x with
        | .inward => current ≤ target o
        | .outward => target o ≤ current
      let far := fun (o : Record) => max current (target o) - min current (target o)
      (e = d ∨ e ≠ d ∧ ∀ o ∈ es, ¬ side d o) ∧
      ∃ older younger, es = older ++ r :: younger ∧ side e r ∧
        (∀ o ∈ es, side e o → far r ≤ far o) ∧ ∀ o ∈ older, side e o → far r < far o

/-! ## The engine begins (06) -/

/-- The engine takes a request that works on the medium. A READ, VERIFY or WRITE begins with the placement of its
first block, a FORMAT with the zone of its cylinder: POSITION and SPEED are opened for it, the positioner seeks, is
recalibrated or holds the seek (08 R141, R144), the spindle controller takes the speed request in its state (07 R130),
and with both closed at once the codec is armed, or given TRACK_WRITE. A WRITE, REASSIGN or FORMAT of a WRITE_LOCK
zone, or with the write-protect sense active, ends WRITE_PROTECTED with no seek and no speed request. -/
def Obligations.AccessOpens : Prop :=
  ∀ (s : State) (tag : Tag) (req : Request),
    let taken := fun (purpose : Purpose) => s.setEngine { s.engine with op := some (freshOp tag req purpose) }
    let barred := fun (purpose : Purpose) =>
      beginOp tag req s = produceDone tag ⟨.writeProtected, 0, 0, none, none⟩ (taken purpose)
    (∀ lba count flags purpose,
      (req = .read lba count flags ∧ purpose = .read ∨ req = .verify lba count flags ∧ purpose = .discard ∨
        req = .write lba count flags ∧ purpose = .write) →
      BlockBegins (taken purpose) (beginOp tag req s) (freshOp tag req purpose)) ∧
    (∀ lba p, req = .reassign lba → s.tables.placement lba.toNat = p →
      p.writeLock = true ∨ s.pins.wprot = true → barred .write) ∧
    ∀ (cylinder head flags : Byte) (zone : Nat) (z : Zone), req = .format cylinder head flags →
      let holds := fun (y : Zone) => y.firstCyl ≤ cylinder.toNat ∧ cylinder.toNat ≤ y.firstCyl + y.cylCount - 1
      s.tables.zones[zone]? = some z → holds z → (∀ j y, j < zone → s.tables.zones[j]? = some y → ¬ holds y) →
      (z.writeLock = true ∨ s.pins.wprot = true → barred .trackWrite) ∧
      (z.writeLock = false → s.pins.wprot = false →
        Opens (taken .trackWrite) (beginOp tag req s) { freshOp tag req .trackWrite with
          target := ⟨cylinder.toNat, head.toNat, 0, zone, z.rpm⟩ })

/-- RECAL begins a recalibration from rest and is held in a movement. SPIN DOWN stops a turning spindle, waits for a
stop in progress, and ends at once in STOPPED. SPIN UP asks for 600 rpm and zone 0 before configuration, else for the
speed of the zone the head is over, and ends at once when the spindle is LOCKED at it. -/
def Obligations.SpinAndRecalBegin : Prop :=
  ∀ (s : State) (tag : Tag),
    let recal := fun (origin : Nat) => { s.pos with
      state := .recalibrating 0 origin s.tables.recalLimit, energised := true, stepTimer := some s.tables.stepMs
      recals := bump s.pos.recals }
    let works := fun (op : Op) => s.setEngine { s.engine with op := some op }
    let recalOp := fun (op : Op) => op.tag = tag ∧ op.req = .recal ∧ op.stage = .recalibrate
    let spinOp := fun (mode : Byte) (op : Op) => op.tag = tag ∧ op.req = .spin mode ∧ op.stage = .spinWait
    (s.pos.state = .unknown → ∃ op, beginOp tag .recal s = (works op).setPos (recal 255) ∧ recalOp op) ∧
    (∀ cylinder, s.pos.state = .idle cylinder →
      ∃ op, beginOp tag .recal s = (works op).setPos (recal cylinder) ∧ recalOp op) ∧
    (s.pos.state ≠ .unknown → (∀ cylinder, s.pos.state ≠ .idle cylinder) →
      ∃ op, beginOp tag .recal s = (works op).setPos { s.pos with held := some .recalibrate } ∧ recalOp op) ∧
    (s.spindle.state ≠ .stopped → s.spindle.state ≠ .stopping →
      ∃ op, beginOp tag (.spin 2) s = (works op).setSpindle { s.spindle with
          state := .stopping, level := 0, target := none, framing := .off, spinupTimer := none
          retargetTimer := none, stopCause := some .request, silenceTimer := true } ∧ spinOp 2 op) ∧
    (s.spindle.state = .stopping → ∃ op, beginOp tag (.spin 2) s = works op ∧ spinOp 2 op) ∧
    (s.spindle.state = .stopped →
      ∃ op, beginOp tag (.spin 2) s = produceDone tag ⟨.ok, 0, 0, none, none⟩ (works op) ∧ op.tag = tag) ∧
    ∀ rpm zone spindle speedOpen, SpinUpAsks s rpm zone →
      SpeedAsked s.tables rpm zone s.spindle spindle speedOpen →
      (speedOpen = true → ∃ op, beginOp tag (.spin 1) s = (works op).setSpindle spindle ∧ spinOp 1 op ∧
        op.target.rpm = rpm) ∧
      (speedOpen = false → ∃ op, op.tag = tag ∧
        beginOp tag (.spin 1) s = produceDone tag ⟨.ok, 0, 0, none, none⟩ ((works op).setSpindle spindle))

/-! ## Management frames (09, 10, 11) -/

/-- A management frame that finds four REPLYs unsent is discarded and counted, and raises LINK_ERROR with counter id
3. -/
def Obligations.ManagementOverrun : Prop :=
  ∀ (i : Instr) (s : State), managementFrame i = true → i.wellFormed = true → s.resetHeld = false →
    4 ≤ s.arb.replies.length →
    exec i s = .next (raiseEvent .linkError 3 (s.setLink { s.link with overrun := bump s.link.overrun }))

/-- LOAD_OPEN: BAD_TABLE, SESSION_OPEN, or the named staging table emptied and LOADING with the session open on it.
LOAD_DROP: BAD_TABLE, or the named staging table EMPTY and a session open on it closed. -/
def Obligations.LoadOpenAndDrop : Prop :=
  ∀ (s : State) (seq table : Byte), s.routes →
    (TableId.ofByte table = none →
      exec (.loadOpen seq table) s = .next (produceReply seq .badTable s) ∧
      exec (.loadDrop seq table) s = .next (produceReply seq .badTable s)) ∧
    ∀ id, TableId.ofByte table = some id →
      (s.tables.session.isSome = true →
        exec (.loadOpen seq table) s = .next (produceReply seq .sessionOpen s)) ∧
      (s.tables.session = none →
        exec (.loadOpen seq table) s = .next (produceReply seq .ok (s.setTables { s.tables with
          staging := s.tables.staging.set id ⟨.loading, []⟩, session := some id }))) ∧
      exec (.loadDrop seq table) s = .next (produceReply seq .ok (s.setTables { s.tables with
        staging := s.tables.staging.set id ⟨.empty, []⟩
        session := if s.tables.session = some id then none else s.tables.session }))

/-- LOAD_PUT: NO_SESSION; malformed or past capacity, the session closes and a LOADING table is REJECTED while a STALE
one stays; otherwise the entries are appended. -/
def Obligations.LoadPutAppends : Prop :=
  ∀ (s : State) (seq : Byte) (bytes : List Byte), s.routes → 1 ≤ bytes.length → bytes.length ≤ 512 →
    (s.tables.session = none → exec (.loadPut seq bytes) s = .next (produceReply seq .noSession s)) ∧
    ∀ (id : TableId) (stage : Stage), s.tables.session = some id → s.tables.staging.get id = stage →
      let n := bytes.length / id.entrySize
      let closed := fun (x : Stage) => s.setTables { s.tables with
        staging := s.tables.staging.set id x, session := none }
      let malformed := bytes.length % id.entrySize ≠ 0 ∨ 32 < n
      let past := id.capacity < stage.entries.length + n
      let reason : Rejection := if malformed then ⟨.field, stage.entries.length⟩ else ⟨.tooMany, id.capacity⟩
      ((malformed ∨ past) → stage.state = .stale →
        exec (.loadPut seq bytes) s =
          .next (produceReply seq .staleStage (s.setTables { s.tables with session := none }))) ∧
      ((malformed ∨ past) → stage.state ≠ .stale →
        exec (.loadPut seq bytes) s =
          .next (produceReply seq (.rejected reason) (closed { stage with state := .rejected reason }))) ∧
      (¬ malformed → ¬ past →
        exec (.loadPut seq bytes) s = .next (produceReply seq .ok (s.setTables { s.tables with
          staging := s.tables.staging.set id
            { stage with entries := stage.entries ++ chunks id.entrySize n bytes } })))

/-- LOAD_CLOSE: NO_SESSION; a STALE table stays STALE; a LOADING one is judged by the checks of its id and becomes
VALID or REJECTED. The session closes. -/
def Obligations.LoadCloseJudges : Prop :=
  ∀ (s : State) (seq : Byte), s.routes →
    (s.tables.session = none → exec (.loadClose seq) s = .next (produceReply seq .noSession s)) ∧
    ∀ (id : TableId) (stage : Stage), s.tables.session = some id → s.tables.staging.get id = stage →
      let closed := fun (x : Stage) => s.setTables { s.tables with
        staging := s.tables.staging.set id x, session := none }
      (stage.state = .stale →
        exec (.loadClose seq) s =
          .next (produceReply seq .staleStage (s.setTables { s.tables with session := none }))) ∧
      (stage.state ≠ .stale → checkTable id stage.entries = none →
        exec (.loadClose seq) s = .next (produceReply seq .ok (closed { stage with state := .valid }))) ∧
      ∀ r, stage.state ≠ .stale → checkTable id stage.entries = some r →
        exec (.loadClose seq) s =
          .next (produceReply seq (.rejected r) (closed { stage with state := .rejected r }))

/-- What LOAD_CLOSE accepts and refuses. DEVICE: one entry, every field in its range, two flag bits, last byte 0.
ZONE: at least one entry, and for each entry its own checks, then its place after the one before it. CODE: 64 entries,
each recordable and not reserved, then distinct from every lower one. DEFECT: kind, origin and ranges, then the order
of the map. The first entry that fails is named. -/
def Obligations.TableChecksAlone : Prop :=
  let num := fun (e : List Byte) (i : Nat) => (byteAt e i).toNat
  let rpm := fun (e : List Byte) => num e 2 * 256 + num e 3
  let zoneAlone := fun (e : List Byte) => num e 0 ≤ 254 ∧ 2 ≤ num e 1 ∧ 600 ≤ rpm e ∧ rpm e ≤ 2400 ∧
    4 ≤ num e 4 ∧ num e 4 ≤ 32 ∧ 8 ≤ num e 5 ∧ num e 5 ≤ 64 ∧ num e 6 % 128 ≤ 4 ∧ num e 6 % 128 < num e 1 ∧
    num e 0 + num e 1 - 1 ≤ 254
  let zoneFits := fun (es : List (List Byte)) (i : Nat) (e : List Byte) => (i = 0 → num e 0 = 0) ∧
    ∀ j p, i = j + 1 → es[j]? = some p → num e 0 = num p 0 + num p 1 ∧ rpm p ≤ rpm e
  let codeAlone := fun (e : List Byte) => (byteAt e 0).getLsbD 7 = true ∧
    (∀ k < 6, ∃ j < 3, (byteAt e 0).getLsbD (k + j) = true) ∧
    byteAt e 0 ∉ ([0xFF, 0xE6, 0xB3, 0x9D, 0xCB, 0xEB] : List Byte)
  let codeFits := fun (es : List (List Byte)) (i : Nat) (e : List Byte) =>
    ∀ j p, j < i → es[j]? = some p → byteAt p 0 ≠ byteAt e 0
  let lba := fun (e : List Byte) => num e 2 * 65536 + num e 3 * 256 + num e 4
  let defectAlone := fun (e : List Byte) => (num e 1 = 1 ∨ num e 1 = 2) ∧
    (num e 0 = 1 ∧ lba e ≤ 16319 ∨ num e 0 = 2 ∧ num e 2 ≤ 7 ∧ num e 3 = 0 ∧ num e 4 = 0)
  let key := fun (e : List Byte) => if num e 0 = 1 then lba e else 16777216 + num e 2 * 256 + num e 5
  let defectFits := fun (es : List (List Byte)) (i : Nat) (e : List Byte) =>
    ∀ j p, i = j + 1 → es[j]? = some p → key p < key e
  let passed := fun (alone : List Byte → Prop) (fits : List (List Byte) → Nat → List Byte → Prop)
      (es : List (List Byte)) (i : Nat) => ∀ j p, j < i → es[j]? = some p → alone p ∧ fits es j p
  checkTable .device [] = some ⟨.tooFew, 0⟩ ∧
  (∀ e rest, checkTable .device (e :: rest) =
    if 40 ≤ num e 0 ∧ num e 1 ≤ 3 ∧ 2 ≤ num e 2 ∧ num e 2 ≤ 20 ∧ 5 ≤ num e 3 ∧ num e 3 ≤ 60 ∧ 1 ≤ num e 4 ∧
        num e 4 ≤ 30 ∧ 1 ≤ num e 5 ∧ num e 5 ≤ 10 ∧ 32 ≤ num e 7 ∧ 1 ≤ num e 8 ∧ num e 8 ≤ 4 ∧ num e 9 ≤ 15 ∧
        num e 10 ≤ 7 ∧ num e 11 ≤ 3 ∧ 1 ≤ num e 13 ∧ num e 13 ≤ 60 ∧ num e 14 ≤ 60 ∧ num e 15 = 0 then none
    else some ⟨.field, 0⟩) ∧
  checkTable .zone [] = some ⟨.tooFew, 0⟩ ∧
  (∀ es i e, es[i]? = some e → passed zoneAlone zoneFits es i →
    (¬ zoneAlone e → checkTable .zone es = some ⟨.field, i⟩) ∧
    (zoneAlone e → ¬ zoneFits es i e → checkTable .zone es = some ⟨.order, i⟩)) ∧
  (∀ es, es ≠ [] → passed zoneAlone zoneFits es es.length → checkTable .zone es = none) ∧
  (∀ es, es.length < 64 → checkTable .code es = some ⟨.tooFew, es.length⟩) ∧
  (∀ es i e, 64 ≤ es.length → es[i]? = some e → passed codeAlone codeFits es i →
    (¬ codeAlone e → checkTable .code es = some ⟨.field, i⟩) ∧
    (codeAlone e → ¬ codeFits es i e → checkTable .code es = some ⟨.duplicate, i⟩)) ∧
  (∀ es, 64 ≤ es.length → passed codeAlone codeFits es es.length → checkTable .code es = none) ∧
  (∀ es i e, es[i]? = some e → passed defectAlone defectFits es i →
    (¬ defectAlone e → checkTable .defect es = some ⟨.field, i⟩) ∧
    (defectAlone e → ∀ j p, i = j + 1 → es[j]? = some p →
      (key p = key e → checkTable .defect es = some ⟨.duplicate, i⟩) ∧
      (key e < key p → checkTable .defect es = some ⟨.order, i⟩))) ∧
  ∀ es, passed defectAlone defectFits es es.length → checkTable .defect es = none

/-- What COMMIT accepts and refuses across its tables, in order: the zones cover the device's cylinders, every zone
fits its budget, and every entry of the map, in index order, names a slot its zone has and that no earlier entry
names. The first failure is named with its index. -/
def Obligations.SetChecksTogether : Prop :=
  ∀ a : ActiveSet,
    let recs := deriveZones a.zones
    let covers := (a.zones.getLast?.map fun z => z.firstCyl + z.cylCount - 1) = some (a.device.cylinders - 1)
    let cell := match a.device.cellCode with
      | 0 => 2000
      | 1 => 1600
      | 2 => 1200
      | _ => 1000
    let fits := fun (z : Zone) => z.spt * (716 + z.gap3) ≤ 60000000000 / (z.rpm * 8 * cell) * 97 / 100
    let names := fun (d : Defect) (zone slot : Nat) => match d with
      | .remap lba k _ => zoneOfLba recs lba = some zone ∧ k = slot
      | .retire z k _ => z = zone ∧ k = slot
    let placed := fun (d : Defect) (zone slot : Nat) =>
      names d zone slot ∧ ∃ r, recs[zone]? = some r ∧ slot < r.spareSlots
    let fresh := fun (i zone slot : Nat) => ∀ j e, j < i → a.map[j]? = some e → ¬ names e zone slot
    let passed := fun (i : Nat) => ∀ j e, j < i → a.map[j]? = some e →
      ∃ zone slot, placed e zone slot ∧ fresh j zone slot
    (¬ covers → checkSet a = some ⟨.geometry, a.zones.length - 1⟩) ∧
    (covers →
      (∀ i z, a.zones[i]? = some z → ¬ fits z → (∀ j y, j < i → a.zones[j]? = some y → fits y) →
        checkSet a = some ⟨.budget, i⟩) ∧
      ((∀ z ∈ a.zones, fits z) →
        (∀ i d, a.map[i]? = some d → passed i →
          ((∀ zone slot, ¬ placed d zone slot) → checkSet a = some ⟨.geometry, i⟩) ∧
          (∀ zone slot, placed d zone slot → ¬ fresh i zone slot → checkSet a = some ⟨.duplicate, i⟩)) ∧
        (passed a.map.length → checkSet a = none)))

/-- The slot states of a map over its zones: a slot that a REMAP of its zone names is USED, one that a RETIRE names is
RETIRED, every other FREE; the free count counts the FREE slots. -/
def Obligations.SlotStatesFollowMap : Prop :=
  ∀ (zones : List Zone) (map : List Defect),
    let recs := deriveZones zones
    let names := fun (d : Defect) (zone slot : Nat) => match d with
      | .remap lba k _ => zoneOfLba recs lba = some zone ∧ k = slot
      | .retire z k _ => z = zone ∧ k = slot
    (∀ d ∈ map, ∃ zone slot, names d zone slot) →
    map.Pairwise (fun d e => ∀ zone slot, names d zone slot → ¬ names e zone slot) →
    ∀ zone r, recs[zone]? = some r →
      ∃ row, (buildSlots recs map)[zone]? = some row ∧ row.states.length = r.spareSlots ∧
        row.free = row.states.count .free ∧
        ∀ slot < r.spareSlots,
          (∀ lba o, .remap lba slot o ∈ map → zoneOfLba recs lba = some zone → row.states[slot]? = some .used) ∧
          (∀ o, .retire zone slot o ∈ map → row.states[slot]? = some .retired) ∧
          ((∀ d ∈ map, ¬ names d zone slot) → row.states[slot]? = some .free)

/-- COMMIT: refused in the order of 10 R178 and R179, changing nothing but the REPLY. The REJECTED staging table of
lowest id answers with its reason. Each table of the new set is the VALID staging table, else the active one; a
missing DEFECT table is an empty map. With nothing VALID it only answers OK; otherwise the set is installed, the
generation advances, OK is answered and then TABLES_COMMITTED is raised. -/
def Obligations.CommitInstalls : Prop :=
  ∀ (s : State) (seq : Byte), s.routes →
    let answer := fun (body : ReplyBody) => exec (.commit seq) s = .next (produceReply seq body s)
    let stage := fun (id : TableId) => s.tables.staging.get id
    let number := fun (id : TableId) => match id with
      | .device => 1
      | .zone => 2
      | .code => 3
      | .defect => 4
    let valid := fun (id : TableId) => (stage id).state = .valid
    (s.queue.records ≠ [] → answer .queueBusy) ∧
    (s.queue.records = [] → s.tables.session.isSome = true → answer .sessionOpen) ∧
    (s.queue.records = [] → s.tables.session = none → (stage .defect).state = .stale → answer .staleStage) ∧
    (s.queue.records = [] → s.tables.session = none → (stage .defect).state ≠ .stale →
      (∀ id r, (stage id).state = .rejected r →
        (∀ lower q, number lower < number id → (stage lower).state ≠ .rejected q) → answer (.rejected r)) ∧
      ((∀ id r, (stage id).state ≠ .rejected r) →
        let device := if valid .device then some (Device.ofBytes ((stage .device).entries.getD 0 []))
          else s.tables.active.map (·.device)
        let zones := if valid .zone then some ((stage .zone).entries.map Zone.ofBytes)
          else s.tables.active.map (·.zones)
        let code := if valid .code then some ((stage .code).entries.map (byteAt · 0))
          else s.tables.active.map (·.code)
        let map := if valid .defect then (stage .defect).entries.map Defect.ofBytes
          else (s.tables.active.map (·.map)).getD []
        (device = none ∨ zones = none ∨ code = none → answer .missingTable) ∧
        ∀ d z c, device = some d → zones = some z → code = some c →
          let a : ActiveSet := ⟨d, z, c, map⟩
          ((∀ id, ¬ valid id) → answer .ok) ∧
          ((∃ id, valid id) →
            (∀ r, checkSet a = some r → answer (.rejected r)) ∧
            (checkSet a = none →
              let g := if s.tables.generation = 0xFFFF then 1 else s.tables.generation + 1
              ∃ t : Tables,
                exec (.commit seq) s = .next (raiseEvent .tablesCommitted (detailNat g.toNat)
                  (produceReply seq .ok (s.setTables t))) ∧
                t.active = some a ∧ t.generation = g ∧ t.image = imageOf g a ∧ t.session = s.tables.session ∧
                t.start = s.tables.start ∧
                (∀ id, t.staging.get id = if valid id then ⟨.empty, []⟩ else stage id) ∧
                (valid .zone → t.zoneRecs = deriveZones a.zones) ∧
                (¬ valid .zone → t.zoneRecs = s.tables.zoneRecs) ∧
                (valid .code → t.inverse = buildInverse a.code) ∧
                (¬ valid .code → t.inverse = s.tables.inverse) ∧
                (valid .zone ∨ valid .defect → t.slots = buildSlots t.zoneRecs a.map) ∧
                (¬ valid .zone → ¬ valid .defect → t.slots = s.tables.slots)))))

/-- TABLE_GET: BAD_TABLE, NOT_CONFIGURED, or up to 32 entries of the active table from the first index. WIPE:
QUEUE_BUSY with a tag in use, else active set, generation, derived structures and image cleared. -/
def Obligations.TableGetAndWipe : Prop :=
  ∀ (s : State) (seq : Byte), s.routes →
    (∀ table first, TableId.ofByte table = none →
      exec (.tableGet seq table first) s = .next (produceReply seq .badTable s)) ∧
    (∀ table first id, TableId.ofByte table = some id → s.tables.active = none →
      exec (.tableGet seq table first) s = .next (produceReply seq .notConfigured s)) ∧
    (∀ table first id a, TableId.ofByte table = some id → s.tables.active = some a →
      ∃ entries,
        exec (.tableGet seq table first) s = .next (produceReply seq
          (.okTable s.tables.generation (a.entries id).length first.toNat entries) s) ∧
        entries.length = min 32 ((a.entries id).length - first.toNat) ∧
        ∀ k < entries.length, entries[k]? = (a.entries id)[first.toNat + k]?) ∧
    (s.queue.records ≠ [] → exec (.wipe seq) s = .next (produceReply seq .queueBusy s)) ∧
    (s.queue.records = [] →
      exec (.wipe seq) s = .next (produceReply seq .ok (s.setTables { s.tables with
        active := none, generation := 0, zoneRecs := [], slots := []
        inverse := List.replicate 256 none, image := clearedImage })))

/-- QUERY: REJECTED (FIELD, 0) with a bit other than CLEAR; otherwise OK with the 48-byte record, each field at its
place, and with CLEAR the twelve counters become 0 after they are read. A value wider than its field stands modulo the
field's size. -/
def Obligations.QueryAnswers : Prop :=
  ∀ (s : State) (seq flags : Byte), s.routes →
    let record := statusRecord s
    let field := fun (k n : Nat) => beNat ((record.drop k).take n)
    (1 < flags.toNat → exec (.query seq flags) s = .next (produceReply seq (.rejected ⟨.field, 0⟩) s)) ∧
    (flags = 0 → exec (.query seq flags) s = .next (produceReply seq (.okStatus record) s)) ∧
    (flags = 1 →
      let t := produceReply seq (.okStatus record) s
      exec (.query seq flags) s = .next t.clearCounters ∧ ∀ c ∈ t.clearCounters.counters, c = 0) ∧
    record.length = 48 ∧ field 0 2 = 0x0412 ∧ field 2 1 = 1 ∧
    field 3 1 = (if s.tables.active = none then 1 else 2) ∧ field 4 1 = (if s.tables.start = .warm then 1 else 2) ∧
    field 5 2 = s.tables.generation.toNat ∧
    field 7 2 = (s.tables.zoneRecs.map ZoneRec.dataCapacity).sum % 65536 ∧
    field 9 1 = (match s.spindle.state with
      | .stopped => 1
      | .starting => 2
      | .locked => 3
      | .retargeting => 4
      | .lost => 5
      | .stopping => 6) ∧
    (s.spindle.target = none → field 10 2 = 0) ∧ (∀ g, s.spindle.target = some g → field 10 2 = g.rpm % 65536) ∧
    (s.spindle.lastPeriod = 0 → field 12 2 = 0) ∧
    (∀ m, s.spindle.lastPeriod = m → 0 < m → ∃ q, field 12 2 = min 65535 q ∧
      2 * 60000000 < (2 * q + 1) * m ∧ (2 * q - 1) * m ≤ 2 * 60000000) ∧
    field 14 1 = s.spindle.level % 256 ∧
    field 15 1 = (match s.pos.state with
      | .unknown => 1
      | .idle _ => 2
      | .stepping .. => 3
      | .settling .. => 4
      | .recalibrating .. => 5) ∧
    field 16 1 = (match s.pos.state with
      | .idle c => c
      | .stepping _ target | .settling target _ => target
      | .unknown | .recalibrating .. => 255) % 256 ∧
    field 17 1 = (if s.pins.wprot = true then 1 else 0) ∧ field 18 1 = s.queue.records.length % 256 ∧
    field 19 1 = s.queue.credits % 256 ∧
    field 20 1 = (s.buffer.pages.countP fun p => p.use == .free) % 256 ∧
    field 21 1 = s.events.queue.length % 256 ∧ field 22 2 = s.events.mask.toNat ∧
    field 24 2 = s.link.badCrc.toNat ∧ field 26 2 = s.link.badLength.toNat ∧ field 28 2 = s.link.overrun.toNat ∧
    field 30 2 = s.queue.refused.toNat ∧ field 32 2 = s.buffer.discards.toNat ∧
    field 34 2 = s.codec.addrErrors.toNat ∧ field 36 2 = s.codec.decodeFaults.toNat ∧
    field 38 2 = s.engine.readRetries.toNat ∧ field 40 2 = s.engine.writeRetries.toNat ∧
    field 42 2 = s.engine.reallocs.toNat ∧ field 44 2 = s.pos.seeks.toNat ∧ field 46 2 = s.pos.recals.toNat

/-- EVENT_SET: REJECTED (FIELD, 0) with a bit beyond the eleven kinds; otherwise the mask is taken and the queued
records of disabled kinds go, the head in AWAITING_ACK excepted. -/
def Obligations.EventSetMasks : Prop :=
  ∀ (s : State) (seq : Byte) (mask : BitVec 16), s.routes →
    (0x0800 ≤ mask.toNat → exec (.eventSet seq mask) s = .next (produceReply seq (.rejected ⟨.field, 0⟩) s)) ∧
    (mask.toNat < 0x0800 →
      ∃ queue, exec (.eventSet seq mask) s =
          .next (produceReply seq .ok (s.setEvents { s.events with mask := mask, queue := queue })) ∧
        (∀ o r rest, s.events.outstanding = some o → s.events.queue = r :: rest →
          queue = r :: rest.filter fun x => mask.getLsbD (x.kind.code - 1)) ∧
        (s.events.outstanding = none →
          queue = s.events.queue.filter fun x => mask.getLsbD (x.kind.code - 1)))

/-- ABORT: NO_SUCH_TAG for a tag not in use; for the ACTIVE request OK and the abort-pending mark; for a waiting
request OK, its removal from the buffer manager and DONE ABORTED. -/
def Obligations.AbortEnds : Prop :=
  ∀ (s : State) (seq : Byte) (tag : Tag), s.routes →
    (s.queue.find tag = none → exec (.abort seq tag) s = .next (produceReply seq .noSuchTag s)) ∧
    ∀ r, s.queue.find tag = some r →
      let t := produceReply seq .ok s
      let aborted := fun (u : State) => schedule (produceDone tag ⟨.aborted, 0, 0, none, none⟩ u)
      (∀ op, r.state = .active → s.engine.op = some op →
        exec (.abort seq tag) s = .next (t.setEngine { s.engine with op := some { op with abortPending := true } })) ∧
      (r.state = .awaitPages →
        exec (.abort seq tag) s = .next (aborted (grant (t.setBuffer
          { t.buffer with fifo := t.buffer.fifo.filter (· != tag) })))) ∧
      (r.state = .awaitData →
        exec (.abort seq tag) s = .next (aborted ((t.setBuffer
            { t.buffer with writes := t.buffer.writes.filter (·.tag != tag) }).setArb
          { t.arb with doneCall := t.arb.doneCall.filter (· != .call tag) }))) ∧
      (r.state = .ready → exec (.abort seq tag) s = .next (aborted t))

/-! ## The lanes (09) -/

/-- The receiver on the bits of HI: idle bits change nothing, a start bit and eight bits make a byte, which may come
in parts. Byte by byte it goes from HUNT to HEADER to BODY. A LEN outside 2 to 522, a complete frame whose CRC does
not match, and one of an unknown kind or with a LEN wrong for its kind are discarded and counted. That a command
carries the levels up to one byte is the model's choice (log entry 32). -/
def Obligations.ReceiverStates : Prop :=
  ∀ (s : State) (idle : Nat) (b : Byte), s.link.lane = none →
    let byteTaken := exec (.hiByte (List.replicate idle true ++ laneByte b)) s
    let goes := fun (rx : Receiver) => s.setLink { s.link with rx := rx }
    exec (.hiByte (List.replicate idle true)) s = .next s ∧
    (∀ bits, bits.length < 8 →
      exec (.hiByte (false :: bits)) s = .next (s.setLink { s.link with lane := some bits })) ∧
    (∀ bits more, bits ++ more = byteBits b → more ≠ [] →
      exec (.hiByte more) (s.setLink { s.link with lane := some bits }) = exec (.hiByte (laneByte b)) s) ∧
    (s.resetHeld = true → byteTaken = .next s) ∧
    (s.resetHeld = false →
      (s.link.rx = .hunt → byteTaken = .next (if b = 0xC3 then goes (.header none) else s)) ∧
      (s.link.rx = .header none → byteTaken = .next (goes (.header (some b)))) ∧
      (∀ hi, s.link.rx = .header (some hi) →
        let len := hi.toNat * 256 + b.toNat
        (2 ≤ len → len ≤ 522 → byteTaken = .next (goes (.body len []))) ∧
        (len < 2 ∨ 522 < len →
          byteTaken = .next (raiseEvent .linkError 2
            (s.setLink { s.link with rx := .hunt, badLength := bump s.link.badLength })))) ∧
      ∀ len bytes, s.link.rx = .body len bytes →
        (bytes.length + 1 < len + 2 → byteTaken = .next (goes (.body len (bytes ++ [b])))) ∧
        (len + 2 ≤ bytes.length + 1 →
          crc16 (be16 len ++ (bytes ++ [b]).take len) ≠ beNat ((bytes ++ [b]).drop len) →
          byteTaken = .next (raiseEvent .linkError 1
            (s.setLink { s.link with rx := .hunt, badCrc := bump s.link.badCrc }))) ∧
        (∀ kind rest, bytes.length + 1 = len + 2 → 2 ≤ len → bytes = kind :: rest →
          crc16 (be16 len ++ (bytes ++ [b]).take len) = beNat ((bytes ++ [b]).drop len) →
          (kind.toNat, len) ∉ [(0x01, 7), (0x02, 7), (0x03, 7), (0x04, 5), (0x05, 5), (0x06, 2), (0x07, 3),
            (0x10, 515), (0x20, 3), (0x22, 2), (0x23, 3), (0x24, 2), (0x25, 4), (0x26, 2), (0x27, 3), (0x28, 4),
            (0x29, 3), (0x2A, 3)] →
          ¬ (kind = 0x21 ∧ 3 ≤ len ∧ len ≤ 514) →
          byteTaken = .next (raiseEvent .linkError 2
            (s.setLink { s.link with rx := .hunt, badLength := bump s.link.badLength }))))

/-- The bits of any well-formed host frame, taken from HUNT byte by byte with any idle bits before each start bit, do
exactly what the frame's own command does. That a command carries the levels up to one byte is the model's choice (log
entry 32). -/
def Obligations.LaneBytesDeliverTheFrame : Prop :=
  ∀ (i : Instr) (bytes : List Byte) (s : State) (idle : Nat), i.wellFormed = true → laneBytes i = some bytes →
    s.resetHeld = false → s.link.rx = .hunt → s.link.lane = none → feed idle bytes s = exec i s

/-- Decoding the encoded form of any well-formed host frame gives the frame back. -/
def Obligations.FrameDecodesToItself : Prop :=
  ∀ (i : Instr) (kind tag : Byte) (payload : List Byte), i.wellFormed = true →
    encodeFrame i = some (kind, tag, payload) → decodeFrame kind tag payload = some i

/-- The arbiter starts nothing while the lane is busy or a reset is asserted; otherwise NOTICE, REPLY, DONE and CALL,
BLOCK and EVENT in that order, the oldest of the class. -/
def Obligations.ArbiterChoice : Prop :=
  ∀ s : State,
    (s.resetHeld = true ∨ s.arb.ho.isSome = true → arbitrate s = s) ∧
    (s.resetHeld = false → s.arb.ho = none →
      (∀ n, s.arb.notice = some n → arbitrate s = s.setArb { s.arb with ho := some (.notice n) }) ∧
      (s.arb.notice = none →
        (∀ r rest, s.arb.replies = r :: rest → arbitrate s = s.setArb { s.arb with ho := some (.reply r) }) ∧
        (s.arb.replies = [] →
          (∀ tag report rest, s.arb.doneCall = .done tag report :: rest →
            arbitrate s = s.setArb { s.arb with doneCall := rest, ho := some (.done tag report) }) ∧
          (∀ tag rest, s.arb.doneCall = .call tag :: rest →
            arbitrate s = (s.setArb { s.arb with doneCall := rest, ho := some (.call tag) }).setBuffer
              { s.buffer with writes := s.buffer.writes.map fun w =>
                  if w.tag = tag ∧ w.call = .queued then { w with call := .sending } else w }) ∧
          (s.arb.doneCall = [] →
            (∀ p rest page tag index, s.arb.blocks = p :: rest → s.buffer.pages[p]? = some page →
              page.use = .full tag index →
              arbitrate s = (s.setArb { s.arb with
                  blocks := rest, ho := some (.block tag index page.data p) }).setBuffer
                { s.buffer with pages := modifyAt s.buffer.pages p fun q =>
                    { q with use := .sending tag index } }) ∧
            (s.arb.blocks = [] →
              (∀ seq r rest, s.events.outstanding = some ⟨seq, .offered⟩ → s.events.queue = r :: rest →
                arbitrate s = (s.setArb { s.arb with
                    ho := some (.event seq r.kind r.count r.detail) }).setEvents
                  { s.events with outstanding := some ⟨seq, .sending⟩ }) ∧
              ((∀ seq, s.events.outstanding ≠ some ⟨seq, .offered⟩) → arbitrate s = s))))))

/-- The last byte of a NOTICE empties its class, of a REPLY takes the head of the reply queue, of a DONE takes its tag
off the unsent-DONE list, of a CALL starts the data timer of the write-data record whose CALL it is, for
data_timeout_s, and of no other; the last byte of a read BLOCK frees its page with a grant decision, and when the READ
has its end report and no page is left, its DONE is produced. Then the arbiter chooses. That the producer's report
comes first is the model's reading (log entry 21). -/
def Obligations.LastByteReports : Prop :=
  ∀ s : State,
    (∀ n, s.arb.ho = some (.notice n) →
      exec .noticeSent s = .next (arbitrate ((s.setArb { s.arb with notice := none, ho := none }).setLines
        { s.lines with seed := none }))) ∧
    (∀ r, s.arb.ho = some (.reply r) →
      exec .replySent s =
        .next (arbitrate (s.setArb { s.arb with replies := s.arb.replies.drop 1, ho := none }))) ∧
    (∀ tag report, s.arb.ho = some (.done tag report) →
      exec .doneSent s = .next (arbitrate ((s.setArb { s.arb with ho := none }).setQueue
        { s.queue with unsent := s.queue.unsent.erase tag }))) ∧
    (∀ tag, s.arb.ho = some (.call tag) →
      exec .callSent s = .next (arbitrate ((s.setArb { s.arb with ho := none }).setBuffer
        { s.buffer with writes := s.buffer.writes.map fun w =>
            if w.tag = tag ∧ w.call = .sending then
              { w with call := .sent, timer := some ((s.tables.active.map (·.device.dataTimeoutS)).getD 0) }
            else w }))) ∧
    ∀ (tag : Tag) (index page : Nat) (data : List Byte), s.arb.ho = some (.block tag index data page) →
      let s1 := grant (s.setBuffer { s.buffer with
        pages := modifyAt s.buffer.pages page fun q => { q with use := .free } })
      let choice := fun (u : State) => schedule (arbitrate (u.setArb { u.arb with ho := none }))
      (∀ r report, s1.queue.find tag = some r → r.endReport = some report → s1.buffer.ownedBy tag = [] →
        exec .blockSent s = .next (choice (produceDone tag report s1))) ∧
      ((∀ r report, s1.queue.find tag = some r → r.endReport = some report → s1.buffer.ownedBy tag ≠ []) →
        exec .blockSent s = .next (choice s1))

/-- What the part's two data outputs carry. HO: nothing and a level of 1 between frames, else the frame's bytes back
to back, each a start bit of 0 and eight bits, most significant first; a frame is SYNC, LEN, KIND, TAG, the payload of
its kind and the CRC over LEN to payload. WDATA: 1 while the gate is off, else the recorded bytes most significant bit
first, then FILL; under a code table of 64 entries every byte of a field and of a track is a reserved one or a code
table entry, and the parts have the lengths of the sector layout. How State holds the frame on HO and the bytes on
WDATA are log entries 32 and 13. -/
def Obligations.OutputSignals : Prop :=
  let u8 := fun (n : Nat) => [(BitVec.ofNat 8 n : Byte)]
  let u16 := fun (n : Nat) => u8 (n / 256) ++ u8 n
  let u24 := fun (n : Nat) => u8 (n / 65536) ++ u16 n
  let frame := fun (f : OutFrame) (kind : Nat) (tag : Byte) (payload : List Byte) =>
    let covered := u16 (payload.length + 2) ++ u8 kind ++ [tag] ++ payload
    f.bytes = u8 0xC3 ++ covered ++ u16 (crc16 covered)
  let reply := fun (r : Reply) (payload : List Byte) => frame (.reply r) 0x83 r.seq payload
  (∀ a : Arbiter, a.ho = none → a.hoClk = false ∧ ∀ n, a.hoDat n = true) ∧
  (∀ (a : Arbiter) (f : OutFrame) (k : Nat) (b : Byte), a.ho = some f → f.bytes[k]? = some b →
    a.hoClk = true ∧ a.hoDat (9 * k) = false ∧ ∀ j < 8, a.hoDat (9 * k + 1 + j) = b.getLsbD (7 - j)) ∧
  (∀ n : Notice, frame (.notice n) 0x80 0
    (u8 (match n.kind with
      | .power => 1
      | .resetLine => 2
      | .link => 3) ++
      u8 (match n.start with
      | .warm => 1
      | .cold => 2) ++ u16 n.generation.toNat ++ u8 n.credits ++
      (List.range 32).flatMap fun k => u8 (n.tags.toNat / 256 ^ (31 - k)))) ∧
  (∀ tag, frame (.call tag) 0x81 tag []) ∧
  (∀ tag (r : DoneReport), frame (.done tag r) 0x82 tag
    (u8 (match r.status with
      | .ok => 0x00
      | .okRecovered => 0x01
      | .okReallocated => 0x02
      | .notConfigured => 0x10
      | .badField => 0x11
      | .lbaRange => 0x12
      | .writeProtected => 0x13
      | .aborted => 0x14
      | .dataTimeout => 0x15
      | .sectorNotFound => 0x20
      | .dataError => 0x21
      | .verifyFailed => 0x22
      | .seekFault => 0x23
      | .spinFault => 0x24
      | .sparesExhausted => 0x25
      | .mapFull => 0x26
      | .formatErrors => 0x27) ++ u8 r.blocksDone ++ u8 r.retriesUsed ++
      (match r.firstFailing with
      | some lba => u24 lba
      | none => []) ++
      match r.failing with
      | some set => u16 (set.toNat / 65536) ++ u16 set.toNat
      | none => [])) ∧
  (∀ seq (kind : EventKind) count (detail : BitVec 24), frame (.event seq kind count detail) 0x84 seq
    (u8 (match kind with
      | .spinLocked => 1
      | .spinLost => 2
      | .spinStopped => 3
      | .spinFault => 4
      | .wpAssert => 5
      | .wpRelease => 6
      | .positionFault => 7
      | .mapGrown => 8
      | .sparesLow => 9
      | .linkError => 10
      | .tablesCommitted => 11) ++ u8 count ++ u24 detail.toNat)) ∧
  (∀ tag index data page, frame (.block tag index data page) 0x90 tag (u8 index ++ data)) ∧
  (∀ r : Reply, match r.body with
    | .ok => reply r (u8 0x00)
    | .okTable generation total first entries =>
      reply r (u8 0x00 ++ u16 generation.toNat ++ u8 total ++ u8 first ++ u8 entries.length ++ entries.flatten)
    | .okStatus record => reply r (u8 0x00 ++ record)
    | .badTable => reply r (u8 0x01)
    | .sessionOpen => reply r (u8 0x02)
    | .noSession => reply r (u8 0x03)
    | .rejected x => reply r (u8 0x04 ++ u8 (match x.reason with
      | .field => 1
      | .order => 2
      | .duplicate => 3
      | .tooFew => 4
      | .tooMany => 5
      | .geometry => 6
      | .budget => 7) ++ u8 x.index)
    | .queueBusy => reply r (u8 0x05)
    | .staleStage => reply r (u8 0x06)
    | .missingTable => reply r (u8 0x07)
    | .noSuchTag => reply r (u8 0x08)
    | .badSeq => reply r (u8 0x09)
    | .notConfigured => reply r (u8 0x0A)) ∧
  (∀ (c : Codec) (n : Nat), c.wgate = false → c.wdataLevel n = true) ∧
  (∀ (c : Codec) (k : Nat), c.wgate = true → ∀ j < 8,
    (∀ b, c.wdata[k]? = some b → c.wdataLevel (8 * k + j) = b.getLsbD (7 - j)) ∧
    (c.wdata[k]? = none → c.wdataLevel (8 * k + j) = true)) ∧
  ∀ (code data : List Byte) (id : SectorId) (z : Zone) (cylinder head zone n : Nat), code.length = 64 →
    data.length = 512 →
    let allowed := fun (b : Byte) => b ∈ ([0xFF, 0xE6, 0xB3, 0x9D, 0xCB, 0xEB] : List Byte) ∨ b ∈ code
    (addressField code id).length = 12 ∧ (dataField code data).length = 690 ∧
    (sectorRecord code z.gap3 id).length = 716 + z.gap3 ∧
    (trackRecord code z cylinder head zone).length = z.spt * (716 + z.gap3) ∧
    (∀ b ∈ dataField code data, allowed b) ∧
    ∀ b ∈ fillTo n (trackRecord code z cylinder head zone), allowed b

/-! ## Events (11) -/

/-- Raising an event: dropped when DISABLED; otherwise counted into the record of its kind, or appended; with nothing
outstanding the head is offered under the next sequence. -/
def Obligations.EventRaised : Prop :=
  ∀ (s : State) (k : EventKind) (detail : BitVec 24),
    (s.events.mask.getLsbD (k.code - 1) = false → raiseEvent k detail s = s) ∧
    (s.events.mask.getLsbD (k.code - 1) = true →
      let queue := if (s.events.queue.map (·.kind)).contains k then
          s.events.queue.map fun r => if r.kind = k then { r with count := min 255 (r.count + 1) } else r
        else s.events.queue ++ [⟨k, 1, detail⟩]
      (∀ o, s.events.outstanding = some o →
        raiseEvent k detail s = s.setEvents { s.events with queue := queue }) ∧
      (s.events.outstanding = none →
        raiseEvent k detail s = arbitrate (s.setEvents { s.events with
          queue := queue, sequence := s.events.sequence + 1
          outstanding := some ⟨s.events.sequence + 1, .offered⟩ })))

/-- EVENT_ACK with the outstanding sequence removes the head record, stops the resend timer, is answered OK and offers
the next record; with any other sequence it is answered BAD_SEQ. The last byte of the outstanding EVENT starts the
resend timer when event_resend_s is not 0; its expiry gives the head record the next sequence and offers it again.
That the REPLY is produced before the next offer is the model's choice (log entry 24). -/
def Obligations.EventAckAndResend : Prop :=
  ∀ s : State,
    (∀ (seq acked : Byte), s.routes →
      (∀ frame, s.events.outstanding = some ⟨acked, frame⟩ →
        exec (.eventAck seq acked) s = .next (offerEvent (produceReply seq .ok (s.setEvents { s.events with
          queue := s.events.queue.drop 1, outstanding := none, resendTimer := none })))) ∧
      ((∀ frame, s.events.outstanding ≠ some ⟨acked, frame⟩) →
        exec (.eventAck seq acked) s = .next (produceReply seq .badSeq s))) ∧
    (∀ seq kind count detail, s.arb.ho = some (.event seq kind count detail) →
      (s.events.outstanding = some ⟨seq, .sending⟩ →
        exec .eventSent s = .next (arbitrate ((s.setArb { s.arb with ho := none }).setEvents { s.events with
          outstanding := some ⟨seq, .sent⟩
          resendTimer := if s.tables.eventResendS = 0 then none else some s.tables.eventResendS }))) ∧
      (s.events.outstanding ≠ some ⟨seq, .sending⟩ →
        exec .eventSent s = .next (arbitrate (s.setArb { s.arb with ho := none })))) ∧
    (s.events.resendTimer.isSome = true → s.events.outstanding.isSome = true →
      exec .resendTimeout s = .next (arbitrate (s.setEvents { s.events with
        sequence := s.events.sequence + 1
        outstanding := some ⟨s.events.sequence + 1, .offered⟩, resendTimer := none })))

/-! ## Spindle (07) -/

/-- A TACH pulse away from a track write, which the codec does not count: ignored in STOPPED; in STOPPING it restarts
the silence timer; elsewhere it is framed, and the 32nd closes a revolution: deviation, control law, then the lock or
loss count, the entry to LOCKED or LOST that the count completes, with what the engine and the codec do at it, and
last the report of the revolution to an engine that hunts. SPIN_LOST carries the rounded deviation of that revolution.
The time between pulses is the command's operand, the entry is made by the pulse itself, a selection that the end of a
SPIN UP brings comes after the revolution's report, and the counts keep their values in a state that does not count
them (log entries 7, 9, 10 and 29); a track write is given again without asking WPROT (log entry 33). TrackWriteStarts
and TrackWriteEnds say the same of the pulse that a track write counts. -/
def Obligations.TachPulseFrames : Prop :=
  ∀ (s : State) (ns : Nat), s.codec.mode.noTrack = true → PulseGoesOn ns s s

/-- The spindle enters LOCKED, raising SPIN_LOCKED with its zone; an operation that waits for that speed goes on with
it: a SPIN UP ends OK, SPEED closes, an interrupted pass is repeated. It enters LOST from LOCKED, raising SPIN_LOST
and starting the retarget timer; a codec at work drops a raised gate or abandons its field, and the pass is suspended
without being counted, a READ's page keeping what was decoded. ENTER_LOCKED and ENTER_LOST stand for the revolution
that completes the count, and ENTER_LOST takes its detail from the last period (log entries 7 and 25). In-band count 4
in LOCKED and out-band count 2 in LOST are the model's reading (log entry 29), as is a track write given again without
asking WPROT (log entry 33). -/
def Obligations.LockGainedAndLost : Prop :=
  ∀ s : State,
    let locked := raiseEvent .spinLocked (BitVec.ofNat 24 ((s.spindle.target.map (·.zone)).getD 0))
      (s.setSpindle { s.spindle with
        state := .locked, inBand := 4, outBand := 0, spinupTimer := none, retargetTimer := none })
    let lost := fun (detail : BitVec 24) => raiseEvent .spinLost detail (s.setSpindle { s.spindle with
      state := .lost, inBand := 0, outBand := 2, retargetTimer := some s.tables.retargetS })
    let measured := lostDetail (s.spindle.lastPeriod * (s.spindle.rpm : Nat) - 60000000)
    (s.spindle.state = .starting ∨ s.spindle.state = .retargeting ∨ s.spindle.state = .lost →
      ∃ u, LockTold locked u ∧ exec .enterLocked s = .next (if s.engine.op = none then u else schedule u)) ∧
    ∀ i detail, (i = .stallTimeout ∧ detail = 127 ∨ i = .enterLost ∧ detail = measured) →
      s.spindle.state = .locked → ∃ u, LossTold (lost detail) u ∧ exec i s = .next u

/-- The spindle's timers: spin-up and retarget expiry stop it with SPIN_FAULT and then SPIN_STOPPED, and end
SPIN_FAULT a request that waits for the speed; silence ends a stop with SPIN_STOPPED, and a SPIN DOWN that waits for
it OK; the idle timer begins a stop. An operation that does not wait for the report stays as it is. A timer's expiry
acts when the timer runs; no elapsed time is held (log entry 6). -/
def Obligations.SpindleTimers : Prop :=
  ∀ s : State,
    let down := s.setSpindle { s.spindle with
      state := .stopped, level := 0, target := none, framing := .off, spinupTimer := none
      retargetTimer := none }
    let faulted := fun (detail : BitVec 24) => raiseEvent .spinStopped 3 (raiseEvent .spinFault detail down)
    let rested := fun (cause : StopCause) => raiseEvent .spinStopped
      (match cause with
        | .idle => 1
        | .request => 2)
      (s.setSpindle { s.spindle with state := .stopped, stopCause := none, silenceTimer := false })
    let waits := fun (op : Op) => op.stage ≠ .drain ∧
      (op.stage = .spinWait ∧ op.req = .spin 1 ∨
        (∀ mode, op.req ≠ .spin mode) ∧ (op.stage = .positionSpeed ∧ op.speedOpen = true ∨ op.awaitingRelock = true))
    let awaitsStop := fun (op : Op) => op.stage = .spinWait ∧ ∃ mode, op.req = .spin mode ∧ mode ≠ 1
    let done := fun (op : Op) (status : Status) (u : State) =>
      schedule (ended op ⟨status, op.blocksDone, op.retriesUsed, none, none⟩ u)
    (∀ i detail, (i = .spinupTimeout ∧ detail = 1 ∧ s.spindle.state = .starting ∧
          s.spindle.spinupTimer.isSome = true ∨
        i = .retargetTimeout ∧ detail = 2 ∧ (s.spindle.state = .retargeting ∨ s.spindle.state = .lost) ∧
          s.spindle.retargetTimer.isSome = true) →
      (s.engine.op = none → exec i s = .next (faulted detail)) ∧
      ∀ op, s.engine.op = some op →
        (waits op → exec i s = .next (done op .spinFault (faulted detail))) ∧
        (¬ waits op → exec i s = .next (faulted detail))) ∧
    (∀ cause, s.spindle.state = .stopping → s.spindle.silenceTimer = true → s.spindle.stopCause = some cause →
      (s.engine.op = none → exec .silenceTimeout s = .next (rested cause)) ∧
      ∀ op, s.engine.op = some op →
        (awaitsStop op → exec .silenceTimeout s = .next (done op .ok (rested cause))) ∧
        (¬ awaitsStop op → exec .silenceTimeout s = .next (rested cause))) ∧
    (s.queue.records = [] → s.spindle.state = .locked → s.tables.idleS ≠ 0 →
      exec .idleTimeout s = .next (s.setSpindle { s.spindle with
        state := .stopping, level := 0, target := none, framing := .off, spinupTimer := none
        retargetTimer := none, stopCause := some .idle, silenceTimer := true }))

/-! ## Positioner (08) -/

/-- The step timer's expiry: the next step toward the target, or SETTLING there; in a recalibration track-zero found,
one more outward step, or failure at the limit with POSITION_FAULT, which ends SEEK_FAULT the request that waits for
it. A held recalibration begins instead, and a held seek is refused, which is a position fault of the block that waits
for it. An operation that waits for no movement stays as it is. TRK0 is an operand of the expiry, and of a failed
movement with a request held the engine acts on the held request's own answer alone (log entries 11 and 19). That the
RECALIBRATE after a first position fault is made in the same step is log entry 35. -/
def Obligations.StepTimerMoves : Prop :=
  ∀ (s : State) (trk0 : Bool), s.pos.stepTimer.isSome = true →
    let expires := exec (.stepTimerExpiry trk0) s
    (∀ x target, s.pos.state = .stepping x target →
      (x < 2 * target → expires = .next (s.setPos { s.pos with
        state := .stepping (x + 1) target, phase := s.pos.phase + 1, energised := true
        stepTimer := some s.tables.stepMs })) ∧
      (2 * target < x → expires = .next (s.setPos { s.pos with
        state := .stepping (x - 1) target, phase := s.pos.phase - 1, energised := true
        stepTimer := some s.tables.stepMs })) ∧
      (x = 2 * target → expires = .next (s.setPos { s.pos with
        state := .settling target false, stepTimer := none, settleTimer := some s.tables.settleMs }))) ∧
    (∀ taken origin limit, s.pos.state = .recalibrating taken origin limit →
      (trk0 = true → expires = .next (s.setPos { s.pos with
        state := .settling 0 true, stepTimer := none, settleTimer := some s.tables.settleMs })) ∧
      (trk0 = false → taken < limit → expires = .next (s.setPos { s.pos with
        state := .recalibrating (taken + 1) origin limit, phase := s.pos.phase - 1, energised := true
        stepTimer := some s.tables.stepMs })) ∧
      (trk0 = false → limit ≤ taken →
        let failed := raiseEvent .positionFault (BitVec.ofNat 24 origin) (s.setPos { s.pos with
          state := .unknown, energised := false, stepTimer := none, settleTimer := none, held := none })
        let recalibrating := { s.pos with
          state := .recalibrating 0 255 s.tables.recalLimit, energised := true, held := none
          stepTimer := some s.tables.stepMs, settleTimer := none, recals := bump s.pos.recals }
        let waits := fun (op : Op) => op.stage = .positionSpeed ∧ op.posOpen = true
        let faults := fun (op : Op) => expires = .next (schedule (ended op
          ⟨.seekFault, op.blocksDone, op.retriesUsed, none, none⟩ failed))
        (s.pos.held = none →
          (s.engine.op = none → expires = .next failed) ∧
          ∀ op, s.engine.op = some op →
            (waits op ∨ op.stage = .recalibrate → faults op) ∧
            (¬ waits op → op.stage ≠ .recalibrate → expires = .next failed)) ∧
        (s.pos.held = some .recalibrate → expires = .next (failed.setPos recalibrating)) ∧
        ∀ c, s.pos.held = some (.seek c) →
          (s.engine.op = none → expires = .next failed) ∧
          ∀ op, s.engine.op = some op →
            (¬ waits op → expires = .next failed) ∧
            (waits op → s.codec.mode = .idle →
              (op.faultCount = 0 → expires = .next ((failed.setPos recalibrating).setEngine
                { s.engine with op := some { op with faultCount := 1 } })) ∧
              (op.faultCount ≠ 0 → faults op))))

/-- The settle timer's expiry: a good arrival is IDLE at the target, a track-zero fault is UNKNOWN with
POSITION_FAULT. A RECAL ends OK or SEEK_FAULT; a seek that settles at the block's cylinder closes POSITION; a
recalibration is followed by the block's seek, and one that fails ends the request SEEK_FAULT; the first track-zero
fault of a block's seek is followed by a recalibration, and the second ends the request SEEK_FAULT. An operation that
waits for no movement stays as it is. A held seek or recalibration is taken when the movement ends. TRK0 is an operand
of the expiry, and with a request held the engine acts on the held request's own answer alone (log entries 11 and 19).
That the RECALIBRATE after a first position fault is made in the same step is log entry 35. -/
def Obligations.SettleTimerArrives : Prop :=
  ∀ (s : State) (trk0 : Bool) (target : Nat) (recal : Bool), s.pos.settleTimer.isSome = true →
    s.pos.state = .settling target recal →
    let rest := fun (p : PosState) => { s.pos with
      state := p, energised := false, stepTimer := none, settleTimer := none, held := none }
    let stepping := fun (x c : Nat) (phase : BitVec 2) => s.setPos { s.pos with
      state := .stepping x c, phase := phase, energised := true, stepTimer := some s.tables.stepMs
      settleTimer := none, held := none, seeks := bump s.pos.seeks }
    let recalibrating := fun (origin : Nat) => { s.pos with
      state := .recalibrating 0 origin s.tables.recalLimit, energised := true
      stepTimer := some s.tables.stepMs, settleTimer := none, held := none, recals := bump s.pos.recals }
    let good := (target = 0 ↔ trk0 = true)
    let arrived := s.setPos (rest (.idle target))
    let failed := raiseEvent .positionFault (BitVec.ofNat 24 target) (s.setPos (rest .unknown))
    let settles := exec (.settleTimerExpiry trk0) s
    let done := fun (op : Op) (status : Status) (u : State) =>
      settles = .next (schedule (ended op ⟨status, op.blocksDone, op.retriesUsed, none, none⟩ u))
    let closes := fun (op : Op) => op.speedOpen = true ∨ s.codec.mode = .idle →
      settles = .next (schedule (passOrWait { op with posOpen := false } arrived))
    let waits := fun (op : Op) => op.stage = .positionSpeed ∧ op.posOpen = true
    let stays := (good → settles = .next arrived) ∧ (¬ good → settles = .next failed)
    let moves := fun (c : Nat) =>
      (target < c → settles = .next (stepping (2 * target + 1) c (s.pos.phase + 1))) ∧
      (c < target → settles = .next (stepping (2 * target - 1) c (s.pos.phase - 1)))
    let faults := fun (op : Op) => s.codec.mode = .idle →
      (op.faultCount = 0 → settles = .next ((failed.setPos (recalibrating 255)).setEngine
        { s.engine with op := some { op with faultCount := 1 } })) ∧
      (op.faultCount ≠ 0 → done op .seekFault failed)
    (s.pos.held = none →
      (s.engine.op = none → stays) ∧
      (∀ op, s.engine.op = some op → op.req = .recal → op.stage = .recalibrate → recal = true →
        (good → done op .ok arrived) ∧ (¬ good → done op .seekFault failed)) ∧
      (∀ op, s.engine.op = some op → ¬ waits op → (op.stage = .recalibrate → recal = false) → stays) ∧
      ∀ op, s.engine.op = some op → waits op →
        (recal = false → good →
          (op.target.cylinder = target → closes op) ∧ (op.target.cylinder ≠ target → settles = .next arrived)) ∧
        (recal = true → good →
          (op.target.cylinder = target → closes op) ∧ moves op.target.cylinder) ∧
        (recal = false → ¬ good → faults op) ∧
        (recal = true → ¬ good → done op .seekFault failed)) ∧
    (∀ c, s.pos.held = some (.seek c) →
      (good → moves c) ∧
      (s.engine.op = none → (good → c = target → settles = .next arrived) ∧ (¬ good → settles = .next failed)) ∧
      ∀ op, s.engine.op = some op →
        (¬ waits op → (good → c = target → settles = .next arrived) ∧ (¬ good → settles = .next failed)) ∧
        (waits op →
          (good → c = target →
            (op.target.cylinder = c → closes op) ∧ (op.target.cylinder ≠ c → settles = .next arrived)) ∧
          (¬ good → faults op))) ∧
    (s.pos.held = some .recalibrate →
      (good → settles = .next (s.setPos (recalibrating target))) ∧
      (¬ good → settles = .next (failed.setPos (recalibrating 255))))

/-! ## Codec and engine (01, 06) -/

/-- The bits of RDATA in HUNT. Without a field's end they are kept as the codec's shift state. A decode fault or a bad
check is counted and not reported; the armed target leads to the armed action; another sector of the track changes
nothing; another cylinder or head is a position fault of the block: the hunt stops, POSITION_FAULT is raised and, the
first time, the head is recalibrated with no pass counted; the second ends the request SEEK_FAULT. The compare resumes
with an empty window, and a command's bits end with the field (log entry 12). That the RECALIBRATE after a first
position fault is made in the same step is log entry 35. -/
def Obligations.AddressFieldActs : Prop :=
  ∀ (s : State) (bits : List Bool) (op : Op) (target : SectorId) (action : Sys2Proof.Machine.Action),
    s.codec.mode = .hunt target action → s.engine.op = some op → op.stage ≠ .drain →
    target.cylinder = op.target.cylinder → target.head = op.target.head →
    let read := readAddress s.tables.inverse s.codec.reader bits
    let resumed := { s.codec with reader := .clear }
    (∀ reader, read = .more reader →
      exec (.addressFieldEnd bits) s = .next (s.setCodec { s.codec with reader := reader })) ∧
    (read = .fault → exec (.addressFieldEnd bits) s =
      .next (s.setCodec { resumed with decodeFaults := bump s.codec.decodeFaults })) ∧
    (read = .badCheck → exec (.addressFieldEnd bits) s =
      .next (s.setCodec { resumed with addrErrors := bump s.codec.addrErrors })) ∧
    (read = .good target →
      exec (.addressFieldEnd bits) s =
        .next ((s.setCodec { resumed with mode := match action with
            | .write ref => .dataWrite target ref (.gap 0)
            | .read page => .dataRead target (.read page)
            | .compare ref => .dataRead target (.compare ref)
            | .discard => .dataRead target .discard }).setEngine
          { s.engine with op := some { op with stage := if op.stage = .hunt then .transfer else op.stage } })) ∧
    (∀ id, read = .good id → id ≠ target → id.cylinder = target.cylinder → id.head = target.head →
      exec (.addressFieldEnd bits) s = .next (s.setCodec resumed)) ∧
    ∀ id c, read = .good id → (id.cylinder ≠ target.cylinder ∨ id.head ≠ target.head) → s.pos.state = .idle c →
      let failed := raiseEvent .positionFault (BitVec.ofNat 24 c) ((s.setCodec { resumed with
        mode := .idle, stopHeld := false, wdata := [] }).setPos { s.pos with state := .unknown })
      (op.faultCount = 0 →
        exec (.addressFieldEnd bits) s = .next ((failed.setPos { s.pos with
            state := .recalibrating 0 255 s.tables.recalLimit, energised := true
            stepTimer := some s.tables.stepMs, recals := bump s.pos.recals }).setEngine
          { s.engine with op := some { op with faultCount := 1, stage := .positionSpeed, posOpen := true } })) ∧
      (op.faultCount ≠ 0 →
        exec (.addressFieldEnd bits) s = .next (schedule (ended op
          ⟨.seekFault, op.blocksDone, op.retriesUsed, none, none⟩ failed)))

/-- The hunt timeout, once hunt revolutions have reached hunt_revs. While the budget lasts another pass is armed for
the same sector, counted once; a write pass only with the write-protect sense inactive, asked before the pass is
counted (log entry 18), else the request ends WRITE_PROTECTED. A READ or VERIFY whose budget is spent ends
SECTOR_NOT_FOUND or DATA_ERROR. Once the target has matched, STOP is held instead. Before hunt_revs is reached nothing
happens. That the expiry is a step of its own and not part of the pulse that completes the count is read from 06 R98
(log entry 8). -/
def Obligations.HuntTimeoutFailsPass : Prop :=
  ∀ (s : State) (op : Op) (target : SectorId) (action : Sys2Proof.Machine.Action), s.engine.op = some op →
    op.stage ≠ .drain →
    let reads := op.purpose = .read ∧ (∃ lba count flags, op.req = .read lba count flags) ∨
      op.purpose = .discard ∧ (∃ lba count flags, op.req = .verify lba count flags)
    let writes := (op.purpose = .write ∨ op.purpose = .compare) ∧
      ((∃ lba count flags, op.req = .write lba count flags) ∨ ∃ lba, op.req = .reassign lba)
    let idled := s.setCodec { s.codec with mode := .idle, stopHeld := false, reader := .clear, wdata := [] }
    let failures := if op.failures = .none then .huntOnly else op.failures
    let again := { op with
      pass := op.pass + 1, retriesUsed := min 255 (op.retriesUsed + 1), failures := failures }
    (op.huntRevs < s.tables.huntRevs → exec .huntTimeout s = .next s) ∧
    (s.tables.huntRevs ≤ op.huntRevs →
      (s.codec.mode = .hunt target action →
        (reads → op.pass < 1 + s.tables.readRetries → exec .huntTimeout s = .next (passBegun again
          (idled.setEngine { s.engine with readRetries := bump s.engine.readRetries }))) ∧
        (reads → 1 + s.tables.readRetries ≤ op.pass →
          exec .huntTimeout s = .next (schedule (ended { op with failures := failures }
            ⟨if op.failures = .mixed then .dataError else .sectorNotFound, op.blocksDone, op.retriesUsed,
              some (op.req.firstLba + op.cursor), none⟩ idled))) ∧
        (writes → op.pass < 1 + s.tables.writeRetries →
          (s.pins.wprot = false → exec .huntTimeout s = .next (passBegun { again with purpose := .write }
            (idled.setEngine { s.engine with writeRetries := bump s.engine.writeRetries }))) ∧
          (s.pins.wprot = true → exec .huntTimeout s = .next (schedule (produceDone op.tag
            ⟨.writeProtected, op.blocksDone, op.retriesUsed, none, none⟩ idled))))) ∧
      ((s.codec.mode = .dataRead target action ∨ ∃ ref phase, s.codec.mode = .dataWrite target ref phase) →
        exec .huntTimeout s = .next (s.setCodec { s.codec with stopHeld := true })))

/-- A data field read that ends GOOD completes the block of a VERIFY or of a verified WRITE; of a READ it first fills
its page and offers it. Then the request ends with its status, a READ with pages left in DRAIN, ends ABORTED with an
abort pending, or goes on with its next block. A command's bits end with the field (log entry 12). -/
def Obligations.DataFieldReadEnds : Prop :=
  ∀ (s : State) (bits : List Bool) (op : Op) (target : SectorId) (action : Sys2Proof.Machine.Action)
    (data : List Byte),
    s.codec.mode = .dataRead target action → s.engine.op = some op → op.stage ≠ .drain →
    readData s.tables.inverse s.codec.reader bits = .whole data true →
    let idled := s.setCodec { s.codec with mode := .idle, stopHeld := false, reader := .clear, wdata := [] }
    ((op.purpose = .discard ∧ action = .discard ∧ (∃ lba count flags, op.req = .verify lba count flags) ∨
        op.purpose = .compare ∧ op.chain = none ∧ (∃ lba count flags, op.req = .write lba count flags) ∧
          ∃ ref, action = .compare ref ∧ data = s.refData ref) →
      ∃ t, exec (.dataReadEnd bits) s = .next (schedule t) ∧ BlockDone idled t op) ∧
    (∀ page, (∃ lba count flags, op.req = .read lba count flags) → op.purpose = .read → action = .read page →
      s.buffer.pageOf op.tag op.cursor = some page → data.length = 512 →
      let offered := arbitrate ((idled.setBuffer { s.buffer with
          pages := modifyAt s.buffer.pages page fun q => ⟨.full op.tag op.cursor, data ++ q.data.drop 512⟩ }).setArb
        { s.arb with blocks := s.arb.blocks ++ [page] })
      ∃ t, exec (.dataReadEnd bits) s = .next (schedule t) ∧ BlockDone offered t op)

/-- The bits of RDATA in DATA_READ that do not end the field well. Before its end they are kept as the codec's shift
state, and a READ's page takes the bytes decoded so far. No data mark within 16 byte times, and a decode fault, count
one decode fault; those and a CRC mismatch fail a read pass: another is armed while the budget lasts, then a READ or
VERIFY ends DATA_ERROR, a READ with pages left in DRAIN. A COMPARE that ends so, or with a byte that differs, fails
the write pass and the write is armed again, with the write-protect sense inactive, asked before the pass is counted
(log entry 18), else the request ends WRITE_PROTECTED. DATA_MARK_TIMEOUT ends the search for the mark, and a command's
bits end with the field (log entry 12). -/
def Obligations.DataFieldReadFails : Prop :=
  ∀ (s : State) (i : Instr) (op : Op) (target : SectorId) (action : Sys2Proof.Machine.Action)
    (data : List Byte) (buffer : Buffer) (faults : Counter),
    s.codec.mode = .dataRead target action → s.engine.op = some op → op.stage ≠ .drain →
    ((∃ page, action = .read page ∧ op.purpose = .read ∧ (∃ lba count flags, op.req = .read lba count flags) ∧
          buffer = { s.buffer with
            pages := modifyAt s.buffer.pages page fun q => { q with data := data ++ q.data.drop data.length } }) ∨
        action = .discard ∧ op.purpose = .discard ∧ (∃ lba count flags, op.req = .verify lba count flags) ∧
          buffer = s.buffer ∨
        (∃ ref, action = .compare ref ∧ op.purpose = .compare ∧
          ((∃ lba count flags, op.req = .write lba count flags) ∨ ∃ lba, op.req = .reassign lba) ∧
          buffer = s.buffer)) →
    (∀ bits reader, readData s.tables.inverse s.codec.reader bits = .more reader →
      data = ((reader.field.map (·.payload)).getD []).take 512 →
      exec (.dataReadEnd bits) s = .next ((s.setBuffer buffer).setCodec { s.codec with reader := reader })) ∧
    (FieldFails s action i data faults →
      let idled := (s.setBuffer buffer).setCodec { s.codec with
        mode := .idle, stopHeld := false, reader := .clear, wdata := [], decodeFaults := faults }
      let again := { op with
        pass := op.pass + 1, retriesUsed := min 255 (op.retriesUsed + 1), failures := .mixed }
      (op.purpose ≠ .compare → op.pass < 1 + s.tables.readRetries →
        exec i s = .next (passBegun again
          (idled.setEngine { s.engine with readRetries := bump s.engine.readRetries }))) ∧
      (op.purpose ≠ .compare → 1 + s.tables.readRetries ≤ op.pass →
        exec i s = .next (schedule (ended { op with failures := .mixed }
          ⟨.dataError, op.blocksDone, op.retriesUsed, some (op.req.firstLba + op.cursor), none⟩ idled))) ∧
      (op.purpose = .compare → op.pass < 1 + s.tables.writeRetries →
        (s.pins.wprot = false → exec i s = .next (passBegun { again with purpose := .write }
          (idled.setEngine { s.engine with writeRetries := bump s.engine.writeRetries }))) ∧
        (s.pins.wprot = true → exec i s = .next (schedule (produceDone op.tag
          ⟨.writeProtected, op.blocksDone, op.retriesUsed, none, none⟩ idled)))))

/-- At the end of gap 2 the gate goes up with the data field on WDATA when 01 R15 allows it; without lock, whatever
else fails (log entry 17), the pass is suspended uncounted, and with the write-protect sense active or a WRITE_LOCK
zone the request ends WRITE_PROTECTED. WRITTEN, at the field's last byte, arms the COMPARE when verification applies
and else completes the block, after which the request ends, ends ABORTED with an abort pending, or goes on with its
next block. Before each end the bit cells that pass are counted, with the running CRC over the bytes sent. That
ADDRESS_FIELD_END brings those cells is the model's choice (log entry 12). -/
def Obligations.GapAndWritten : Prop :=
  ∀ (s : State) (op : Op) (target : SectorId) (ref : DataRef) (n : Nat) (bits : List Bool),
    s.engine.op = some op → op.stage ≠ .drain → op.purpose = .write →
    ((∃ lba count flags, op.req = .write lba count flags) ∨ ∃ lba, op.req = .reassign lba) →
    let idled := s.setCodec { s.codec with mode := .idle, stopHeld := false, reader := .clear, wdata := [] }
    let verified := op.chain ≠ none ∨ op.req.verifyFlag = true ∨ s.tables.verifyDefault = true
    (s.codec.mode = .dataWrite target ref (.gap n) →
      exec (.addressFieldEnd bits) s =
        .next (s.setCodec { s.codec with mode := .dataWrite target ref (.gap (min 47 (n + bits.length))) }) ∧
      (target.zone < s.tables.zones.length →
        (s.lockedAt (s.tables.zoneAt target.zone).rpm = false →
          exec .gap2End s = .next (idled.setEngine { s.engine with op := some { op with
            stage := .hunt, awaitingRelock := true, huntRevs := 0 } })) ∧
        (s.lockedAt (s.tables.zoneAt target.zone).rpm = true →
          (s.pins.wprot = false → (s.tables.zoneAt target.zone).writeLock = false →
            exec .gap2End s = .next (s.setCodec { s.codec with
              mode := .dataWrite target ref (.sending 0 0xFFFF)
              wdata := dataField s.tables.code (s.refData ref) })) ∧
          (s.pins.wprot = true ∨ (s.tables.zoneAt target.zone).writeLock = true →
            exec .gap2End s = .next (schedule (produceDone op.tag
              ⟨.writeProtected, op.blocksDone, op.retriesUsed, none, none⟩ idled)))))) ∧
    (s.codec.mode = .dataWrite target ref (.sending 0 0xFFFF) → bits.length < 5520 →
      ∃ crc, exec (.addressFieldEnd bits) s =
          .next (s.setCodec { s.codec with mode := .dataWrite target ref (.sending bits.length crc) }) ∧
        crc.toNat = crc16 ((s.refData ref).take (min 512 ((6 * (bits.length / 8 - 3) + 7) / 8)))) ∧
    ∀ crc, s.codec.mode = .dataWrite target ref (.sending n crc) →
      (verified → exec .written s = .next (passBegun { op with purpose := .compare } idled)) ∧
      (¬ verified → ∃ t, exec .written s = .next (schedule t) ∧ BlockDone idled t op)

/-- A track write waiting for its start pulse begins at the next pulse when 01 R15 allows the gate, and sends the
sectors of the track. A start pulse that is refused returns the codec to IDLE: without lock, whatever else fails (log
entry 17), TRACK_WRITE is given again after the relock and no pass is counted; with the write-protect sense active or
a WRITE_LOCK zone the FORMAT ends WRITE_PROTECTED; with the positioner not IDLE at the cylinder it is a position fault
of the FORMAT, the first of which recalibrates in the same step (log entry 35) and the second ends it SEEK_FAULT. The
spindle controller then takes the pulse as it does with the codec IDLE, the pulse that closes a revolution too: one
that completes the loss drops the gate just raised, and one that completes the lock gives a suspended track write
again, without asking WPROT (log entry 33). The codec counts before the controller, a selection comes last, the entry
is made by the pulse itself and the times between pulses are operands (log entries 7, 9 and 10); a count keeps its
value in a state that does not count it (log entry 29). -/
def Obligations.TrackWriteStarts : Prop :=
  (∀ (s : State) (ns c h z : Nat), s.codec.mode = .trackWrite c h z .waiting →
    z < s.tables.zones.length → s.lockedAt (s.tables.zoneAt z).rpm = true → s.pins.wprot = false →
    (s.tables.zoneAt z).writeLock = false → s.pos.state = .idle c →
    PulseGoesOn ns s (s.setCodec { s.codec with
      mode := .trackWrite c h z (.running 0 0 0)
      wdata := (List.range (s.tables.zoneAt z).spt).flatMap fun n =>
        List.replicate 8 0xFF ++ addressField s.tables.code ⟨c, h, n, z⟩ ++ List.replicate 6 0xFF ++
        dataField s.tables.code (List.replicate 512 0) ++
        List.replicate (s.tables.zoneAt z).gap3 0xFF })) ∧
  ∀ (s : State) (ns c h z : Nat) (op : Op), s.codec.mode = .trackWrite c h z .waiting →
    z < s.tables.zones.length → s.engine.op = some op → op.stage ≠ .drain → op.purpose = .trackWrite →
    (∃ cylinder head flags, op.req = .format cylinder head flags) →
    let idled := s.setCodec { s.codec with mode := .idle, stopHeld := false, reader := .clear, wdata := [] }
    let locked := s.lockedAt (s.tables.zoneAt z).rpm
    let barred := s.pins.wprot = true ∨ (s.tables.zoneAt z).writeLock = true
    let ends := fun (status : Status) =>
      PulseGoesOn ns s (produceDone op.tag ⟨status, op.blocksDone, op.retriesUsed, none, none⟩ idled)
    let recalibrates := fun (pos : Positioner) => PulseGoesOn ns s ((idled.setPos pos).setEngine { s.engine with
      op := some { op with faultCount := 1, stage := .positionSpeed, posOpen := true } })
    let recal := fun (origin : Nat) => { s.pos with
      state := .recalibrating 0 origin s.tables.recalLimit, energised := true, stepTimer := some s.tables.stepMs
      recals := bump s.pos.recals }
    (locked = false → PulseGoesOn ns s (idled.setEngine { s.engine with
      op := some { op with stage := .trackWrite, awaitingRelock := true, huntRevs := 0 } })) ∧
    (locked = true → barred → ends .writeProtected) ∧
    (locked = true → ¬ barred → s.pos.state ≠ .idle c →
      (op.faultCount = 0 →
        (s.pos.state = .unknown → recalibrates (recal 255)) ∧
        (∀ x, s.pos.state = .idle x → recalibrates (recal x)) ∧
        (s.pos.state ≠ .unknown → (∀ x, s.pos.state ≠ .idle x) →
          recalibrates { s.pos with held := some .recalibrate })) ∧
      (op.faultCount ≠ 0 → ends .seekFault))

/-- A running track write. Before its 32nd pulse it counts pulses and whole sectors, with FILL after the last sector.
At the 32nd, with the sectors sent, it is DONE: the FORMAT ends OK or begins its verification with sector 0. With
sectors still to send it is OVERRUN: TRACK_WRITE is given again while write_retries last, then the FORMAT ends
SPIN_FAULT. The spindle controller then takes the pulse in its own state, the pulse that closes a revolution too: one
that completes the loss raises SPIN_LOST, drops the gate of a track write that goes on, and suspends its pass, or the
verification it has begun, without a count. The times between pulses are operands, the entry is made by the pulse
itself, the codec counts before the controller and the selection follows both (log entries 7, 9 and 10); a count keeps
its value in a state that does not count it, and a track write is given again without asking WPROT (log entries 29 and
33). WPROT tears the track write and the FORMAT ends WRITE_PROTECTED; WP_ASSERT is raised before the gate drops and
the DONE is produced, and pin and sense are held apart (log entries 34 and 26). -/
def Obligations.TrackWriteEnds : Prop :=
  ∀ (s : State) (ns c h z k t n : Nat) (op : Op),
    s.codec.mode = .trackWrite c h z (.running k t n) → s.engine.op = some op → op.purpose = .trackWrite →
    op.stage = .trackWrite → (∃ cylinder head flags, op.req = .format cylinder head flags) →
    let zone := s.tables.zoneAt z
    let cell := cellNs ((s.tables.active.map (·.device.cellCode)).getD 0)
    let sent := (t + ns) / (8 * cell)
    let idled := { s.codec with mode := .idle, stopHeld := false, reader := .clear, wdata := [] }
    let ends := fun (status : Status) => PulseGoesOn ns s (produceDone op.tag
      ⟨status, op.blocksDone, op.retriesUsed, none, none⟩ (s.setCodec idled))
    let allSent := (zone.spt * (716 + zone.gap3) - zone.gap3) * 8 * cell ≤ t + ns
    (k < 31 → PulseGoesOn ns s (s.setCodec { s.codec with
      mode := .trackWrite c h z (.running (k + 1) (t + ns) (min zone.spt (sent / (716 + zone.gap3))))
      wdata := s.codec.wdata ++ List.replicate (sent - s.codec.wdata.length) 0xFF })) ∧
    (k = 31 → allSent → op.req.verifyFlag = false → ends .ok) ∧
    (k = 31 → allSent → op.req.verifyFlag = true →
      PulseGoesOn ns s ((s.setEngine { s.engine with op := some { op with
          stage := .verify, purpose := .formatVerify 0, huntRevs := 0
          huntFresh := decide (s.spindle.framing = .off ∨ s.spindle.framing = .waiting) } }).setCodec
        { idled with
          mode := .hunt ⟨op.target.cylinder, op.target.head, 0, op.target.zone⟩ .discard
          head := op.target.head })) ∧
    (k = 31 → ¬ allSent → op.pass < 1 + s.tables.writeRetries →
      PulseGoesOn ns s ((s.setEngine { s.engine with
          writeRetries := bump s.engine.writeRetries
          op := some { op with
            pass := op.pass + 1, retriesUsed := min 255 (op.retriesUsed + 1), failures := .mixed
            huntRevs := 0 } }).setCodec
        { idled with
          mode := .trackWrite op.target.cylinder op.target.head op.target.zone .waiting
          head := op.target.head })) ∧
    (k = 31 → ¬ allSent → 1 + s.tables.writeRetries ≤ op.pass → ends .spinFault) ∧
    (s.lines.reset = false → s.pins.wprot = false →
      exec (.wprotChange true) s = .next (schedule (produceDone op.tag
        ⟨.writeProtected, op.blocksDone, op.retriesUsed, none, none⟩
        ((raiseEvent .wpAssert 0 (s.setPins ⟨true, true⟩)).setCodec idled))))

/-- The verification of a FORMAT reads every sector once. A read that ends GOOD leaves the failing-sector set; a CRC
mismatch, a decode fault or a hunt timeout puts the sector into it. Then the next sector is armed, and after the last
the FORMAT ends FORMAT_ERRORS or OK with the set as its bitmap. What the two reading commands stand for is log entry
12. -/
def Obligations.FormatVerifies : Prop :=
  ∀ (s : State) (bits : List Bool) (op : Op) (target : SectorId) (k : Nat) (i : Instr) (bad : Bool)
    (faults : Counter) (read : DataRead),
    s.engine.op = some op → op.stage = .verify → op.purpose = .formatVerify k →
    (∃ cylinder head flags, op.req = .format cylinder head flags) →
    (s.codec.mode = .dataRead target .discard ∧
        (i = .dataReadEnd bits ∧ read = readData s.tables.inverse s.codec.reader bits ∨
          i = .dataMarkTimeout ∧ s.codec.reader.field = none ∧ read = .noMark) ∧
        ((∃ data, read = .whole data (!bad)) ∧ faults = s.codec.decodeFaults ∨
          (∃ data, read = .fault data) ∧ bad = true ∧ faults = bump s.codec.decodeFaults ∨
          read = .noMark ∧ bad = true ∧ faults = bump s.codec.decodeFaults) ∨
      s.codec.mode = .hunt target .discard ∧ i = .huntTimeout ∧ s.tables.huntRevs ≤ op.huntRevs ∧ bad = true ∧
        faults = s.codec.decodeFaults) →
    let failing := if bad = true then op.failing ||| (1#32 <<< k) else op.failing
    let idled := { s.codec with
      mode := .idle, stopHeld := false, reader := .clear, wdata := [], decodeFaults := faults }
    (k + 1 < (s.tables.zoneAt op.target.zone).spt →
      exec i s = .next ((s.setEngine { s.engine with op := some { op with
            failing := failing, purpose := .formatVerify (k + 1), huntRevs := 0
            huntFresh := decide (s.spindle.framing = .off ∨ s.spindle.framing = .waiting) } }).setCodec
        { idled with
          mode := .hunt ⟨op.target.cylinder, op.target.head, k + 1, op.target.zone⟩ .discard
          head := op.target.head })) ∧
    ((s.tables.zoneAt op.target.zone).spt ≤ k + 1 →
      exec i s = .next (schedule (produceDone op.tag
        ⟨if failing = 0 then .ok else .formatErrors, op.blocksDone, op.retriesUsed, none, some failing⟩
        (s.setCodec idled))))

/-- The trials of a reallocation chain. A REASSIGN begins one at once, a WRITE whose last write pass fails, by a hunt
timeout or by a COMPARE that does not end GOOD, when AUTO_REALLOC is set; else it ends VERIFY_FAILED. Each trial takes
the lowest FREE slot of the zone and opens POSITION and SPEED for it, to write zeros for a REASSIGN and the block's
page for a WRITE; without a slot the chain ends SPARES_EXHAUSTED. A trial that could be written at once with the
write-protect sense active ends the request WRITE_PROTECTED instead; the sense is not asked before. A slot that fails
its last pass is retired, with MAP_GROWN and SPARES_LOW, and the next trial follows, or after the third the chain ends
VERIFY_FAILED; with the map holding 192 entries nothing is retired and it ends MAP_FULL. What HUNT_TIMEOUT and the
reading commands stand for are log entries 8 and 12. -/
def Obligations.SlotTrials : Prop :=
  (∀ (s : State) (tag : Tag) (lba : Lba) (p : Placement), s.tables.placement lba.toNat = p → p.writeLock = false →
    s.pins.wprot = false →
    let op := freshOp tag (.reassign lba) .write
    let chain : Chain := ⟨lba.toNat, p.zone, match p.source with
      | .home => none
      | .spare k => some k, 0, none⟩
    (∀ k, LowestFree s.tables p.zone k →
      OnTrial s (beginOp tag (.reassign lba) s) { op with placement := some p } chain k) ∧
    (NoneFree s.tables p.zone →
      beginOp tag (.reassign lba) s = produceDone tag ⟨.sparesExhausted, 0, 0, some lba.toNat, none⟩
        (s.setEngine { s.engine with op := some op }))) ∧
  ∀ (s : State) (i : Instr) (op : Op) (target : SectorId) (failures : Failures) (faults : Counter),
    s.engine.op = some op → op.stage ≠ .drain → op.req.isRead = false →
    ((∃ action, s.codec.mode = .hunt target action ∧ i = .huntTimeout ∧ s.tables.huntRevs ≤ op.huntRevs ∧
        (op.purpose = .write ∨ op.purpose = .compare) ∧ faults = s.codec.decodeFaults ∧
        failures = if op.failures = .none then .huntOnly else op.failures) ∨
      ∃ ref data, s.codec.mode = .dataRead target (.compare ref) ∧ op.purpose = .compare ∧
        FieldFails s (.compare ref) i data faults ∧ failures = .mixed) →
    1 + s.tables.writeRetries ≤ op.pass →
    let lba := op.req.firstLba + op.cursor
    let u := s.setCodec { s.codec with
      mode := .idle, stopHeld := false, reader := .clear, wdata := [], decodeFaults := faults }
    let ends := fun (status : Status) (v : State) => exec i s = .next (schedule (produceDone op.tag
      ⟨status, op.blocksDone, op.retriesUsed, some lba, none⟩ v))
    let tries := fun (chain : Chain) (v : State) =>
      (∀ k, LowestFree v.tables chain.zone k →
        ∃ t, exec i s = .next (schedule t) ∧ OnTrial v t { op with failures := failures } chain k) ∧
      (NoneFree v.tables chain.zone → ends .sparesExhausted v)
    (op.chain = none →
      (s.tables.autoRealloc = false → ends .verifyFailed u) ∧
      (s.tables.autoRealloc = true → ∀ p, op.placement = some p →
        tries ⟨lba, p.zone, match p.source with
          | .home => none
          | .spare k => some k, 0, none⟩ u)) ∧
    ∀ chain slot, op.chain = some chain → chain.slot = some slot →
      (192 ≤ s.tables.map.length → ends .mapFull u) ∧
      (s.tables.map.length < 192 →
        let v := grownEvents chain.lba chain.zone (u.setTables (s.tables.retireSlot chain.zone slot))
        (2 ≤ chain.slotsTried → ends .verifyFailed v) ∧
        (chain.slotsTried < 2 →
          tries { chain with slotsTried := chain.slotsTried + 1, slot := none } v))

/-- A slot on trial whose COMPARE ends GOOD becomes the block's placement: the map change is made with MAP_GROWN and
SPARES_LOW, the reallocations counter rises and the block is complete, the request ending OK_REALLOCATED after its
last; with the map holding 192 entries nothing is changed and it ends MAP_FULL. A command's bits end with the field
(log entry 12). -/
def Obligations.SlotOutcome : Prop :=
  ∀ (s : State) (bits : List Bool) (op : Op) (target : SectorId) (ref : DataRef) (chain : Chain) (slot : Nat),
    s.engine.op = some op → s.codec.mode = .dataRead target (.compare ref) → op.stage ≠ .drain →
    op.purpose = .compare → op.req.isRead = false → op.chain = some chain → chain.slot = some slot →
    readData s.tables.inverse s.codec.reader bits = .whole (s.refData ref) true →
    let u := s.setCodec { s.codec with mode := .idle, stopHeld := false, reader := .clear, wdata := [] }
    (192 ≤ s.tables.map.length →
      exec (.dataReadEnd bits) s = .next (schedule (produceDone op.tag
        ⟨.mapFull, op.blocksDone, op.retriesUsed, some (op.req.firstLba + op.cursor), none⟩ u))) ∧
    (s.tables.map.length < 192 →
      ∃ t, exec (.dataReadEnd bits) s = .next (schedule t) ∧
        BlockDone ((grownEvents chain.lba chain.zone
            (u.setTables (s.tables.remapTo chain.lba chain.zone slot))).setEngine
          { s.engine with reallocs := bump s.engine.reallocs })
          t { op with reallocated := true, failures := .none })

/-- A change of WPROT with the gate down raises its event and nothing more; with the gate of a WRITE, REASSIGN or
FORMAT up it tears the field or the track and ends the request WRITE_PROTECTED. While RESET is asserted the sense
waits for the release, so that only the pin's level changes and no event is raised. Pin and sense are held apart (log
entry 26), and the event is raised before the gate drops (log entry 34). -/
def Obligations.WprotChangeActs : Prop :=
  ∀ (s : State) (active : Bool),
    (s.lines.reset = true ∨ s.pins.wprot = active →
      exec (.wprotChange active) s = .next (s.setPins { s.pins with wprotPin := active })) ∧
    (s.lines.reset = false → s.pins.wprot = !active → s.codec.wgate = false →
      exec (.wprotChange active) s =
        .next (raiseEvent (if active then .wpAssert else .wpRelease) 0 (s.setPins ⟨active, active⟩))) ∧
    (∀ op, s.lines.reset = false → active = true → s.pins.wprot = false → s.codec.wgate = true →
      s.engine.op = some op → op.stage ≠ .drain → ((∃ lba count flags, op.req = .write lba count flags) ∨ (∃ lba, op.req = .reassign lba) ∨
        ∃ cylinder head flags, op.req = .format cylinder head flags) →
      let e := raiseEvent .wpAssert 0 (s.setPins ⟨true, true⟩)
      exec (.wprotChange active) s = .next (schedule (produceDone op.tag
        ⟨.writeProtected, op.blocksDone, op.retriesUsed, none, none⟩
        (e.setCodec { e.codec with mode := .idle, stopHeld := false, reader := .clear, wdata := [] }))))

/-! ## Resets (09, 10) -/

/-- POWER_ON leaves every block as power-on does, starts the table store from the retained image and sends the NOTICE;
an image whose check word does not match, or unknown, starts it COLD, as does one whose generation is 0 or whose
tables fail the checks of LOAD_CLOSE or COMMIT; one that passes them all starts it WARM with its tables and
generation. A COLD start leaves the cleared image. At the release of the last asserted line the NOTICE is the first
frame sent; the release of one line while the other stays asserted produces none and starts nothing on HO, and that of
RESET still takes the pin's level into the sense. A loss of VRET makes the image unknown. The model's own choices
stand in it: POWER_ON includes the release of both lines and its NOTICE (log entry 4), the bytes of the pages are kept
(14), the head selection is 0 (15), the sense takes the pin's level (26), the queue of commands is kept (28); the
NOTICE waits for the release of the last line (5), and a loss of VRET makes the contents unknown and nothing else
(16). -/
def Obligations.PowerOnAndRelease : Prop :=
  (∀ s : State,
    let t := startTables s.tables.image
    let n : Notice := ⟨.power, t.start, t.generation, 8, 0⟩
    exec .powerOn s = .next ((((State.afterReset t ⟨s.pins.wprotPin, s.pins.wprotPin⟩ s.pending).setBuffer
        { pages := s.buffer.pages.map fun q => { q with use := .free }, fifo := [], writes := [], discards := 0 }).setLines
      ⟨false, false, some ⟨.power, 0⟩⟩).setArb ⟨some n, [], [], [], some (.notice n)⟩)) ∧
  (∀ bytes check, check ≠ crc32 bytes → startTables (.contents bytes check) = Tables.cold) ∧
  startTables .unknown = Tables.cold ∧
  (∀ (g : BitVec 16) (device code : List Byte) (zones map : List (List Byte)), device.length = 16 →
    code.length = 64 → (∀ e ∈ zones, e.length = 7) → (∀ e ∈ map, e.length = 6) → zones.length < 256 →
    map.length < 256 →
    let u8 := fun (n : Nat) => [(BitVec.ofNat 8 n : Byte)]
    let bytes := u8 (g.toNat / 256) ++ u8 g.toNat ++ device ++ u8 zones.length ++ zones.flatten ++ code ++
      u8 map.length ++ map.flatten
    let a : ActiveSet := ⟨Device.ofBytes device, zones.map Zone.ofBytes, code, map.map Defect.ofBytes⟩
    let passes := checkTable .device [device] = none ∧ checkTable .zone zones = none ∧
      checkTable .code (code.map fun b => [b]) = none ∧ checkTable .defect map = none ∧ zones.length ≤ 8 ∧
      map.length ≤ 192 ∧ checkSet a = none
    let t := startTables (.contents bytes (crc32 bytes))
    (g = 0 ∨ ¬ passes → t = Tables.cold) ∧
    (g ≠ 0 → passes → t.start = .warm ∧ t.active = some a ∧ t.generation = g)) ∧
  Tables.cold.image = .contents (List.replicate 84 0) (~~~ crc32 (List.replicate 84 0)) ∧
  (∀ (s : State) (seed : NoticeSeed), s.lines.lrst = true → s.lines.reset = false → s.lines.seed = some seed →
    s.arb.ho = none →
    let n : Notice := ⟨seed.kind, s.tables.start, s.tables.generation, 8, seed.tags⟩
    exec (.resetRelease .lrst) s = .next ((s.setLines { s.lines with lrst := false }).setArb
      { s.arb with notice := some n, ho := some (.notice n) })) ∧
  (∀ (s : State) (seed : NoticeSeed), s.lines.reset = true → s.lines.lrst = false → s.lines.seed = some seed →
    s.arb.ho = none →
    let n : Notice := ⟨seed.kind, s.tables.start, s.tables.generation, 8, seed.tags⟩
    exec (.resetRelease .reset) s = .next (((s.setLines { s.lines with reset := false }).setPins
        { s.pins with wprot := s.pins.wprotPin }).setArb
      { s.arb with notice := some n, ho := some (.notice n) })) ∧
  (∀ s : State, s.lines.reset = true → s.lines.lrst = true →
    exec (.resetRelease .lrst) s = .next (s.setLines { s.lines with lrst := false }) ∧
    exec (.resetRelease .reset) s = .next
      ((s.setLines { s.lines with reset := false }).setPins { s.pins with wprot := s.pins.wprotPin })) ∧
  ∀ s : State, exec .vretLoss s = .next (s.setTables { s.tables with image := .unknown })

/-- RESET resets every block as power-on does and starts the table store again; LRST keeps tables, spindle and
position. Both leave the tags in use, with those of an unsent NOTICE, to the NOTICE. Bit cells that come with the LRST
are taken before it: a field that ends in them is counted, and one of another cylinder or head is reported to the
positioner, so that the position is UNKNOWN after the LRST; with none the LRST is taken first and the position is kept
(log entry 35). The model's own choices stand in it: both lines may be asserted, with one merged NOTICE (log entry 5),
the bytes of the pages are kept (14), the head selection is 0 after RESET and kept by LRST (15), the queue of commands
is kept (28), HO is emptied at once, and the bit receiver waits for a start bit after RESET and is kept by LRST (32).
-/
def Obligations.ResetLinesAct : Prop :=
  ∀ s : State,
    let tags := ((s.lines.seed.map (·.tags)).getD 0) ||| tagSet (s.queue.records.map (·.tag) ++ s.queue.unsent)
    (s.lines.reset = false →
      exec .reset s = .next (((State.afterReset (startTables s.tables.image) s.pins s.pending).setBuffer
        { pages := s.buffer.pages.map fun q => { q with use := .free }, fifo := [], writes := [], discards := 0 }).setLines
        ⟨true, s.lines.lrst, some ⟨.resetLine, tags⟩⟩)) ∧
    TakenBeforeReset s [] s ∧
    ∀ bits v, s.lines.lrst = false → TakenBeforeReset s bits v →
      ∃ kind u, exec (.lrst bits) s = .next u ∧ u.lines = ⟨s.lines.reset, true, some ⟨kind, tags⟩⟩ ∧
        (s.lines.seed = none → kind = .link) ∧ (∀ seed, s.lines.seed = some seed → kind = seed.kind) ∧
        u.queue = ⟨[], 8, [], .inward, s.queue.refused⟩ ∧ u.arb = ⟨none, [], [], [], none⟩ ∧
        u.link = { s.link with rx := .hunt } ∧ u.engine = { s.engine with op := none } ∧
        u.codec = { v.codec with mode := .idle, stopHeld := false, reader := .clear, wdata := [] } ∧
        u.spindle = s.spindle ∧ u.pins = s.pins ∧
        u.tables = { s.tables with staging := .reset, session := none } ∧
        u.events = { v.events with queue := [], outstanding := none, resendTimer := none } ∧
        u.buffer = { v.buffer with
          pages := v.buffer.pages.map fun q => { q with use := .free }, fifo := [], writes := [] } ∧
        u.pending = s.pending ∧ u.pos = { v.pos with held := none, state := u.pos.state } ∧
        (∀ x target, v.pos.state = .stepping x target →
          ∃ c, u.pos.state = .stepping x c ∧ (x = 2 * c ∨ (x < 2 * target ∧ x + 1 = 2 * c) ∨
            (2 * target < x ∧ x = 2 * c + 1))) ∧
        ((∀ x target, v.pos.state ≠ .stepping x target) → u.pos.state = v.pos.state)

/-! ## Recorded fields, placement and the retained image (01, 02, 03, 10) -/

/-- Under any well-formed code table, what the codec writes reads back bit by bit as it was written: gap 1 and the
address field from where the compare stands empty, gap 2 and the data field from the address field's TRAILER, whatever
bits follow them. -/
def Obligations.RecordedFieldsReadBack : Prop :=
  ∀ (code : List Byte) (rest : List Bool), code.length = 64 → code.Nodup →
    (∀ b ∈ code, codeByteOk b = true) →
    (∀ id : SectorId, id.cylinder < 256 → id.head < 256 → id.sector < 256 → id.zone < 256 →
      readAddress (buildInverse code) .clear
        (toBits (List.replicate 8 0xFF ++ addressField code id) ++ rest) = .good id) ∧
    ∀ data : List Byte, data.length = 512 →
      readData (buildInverse code) .clear
        (toBits (List.replicate 6 0xFF ++ dataField code data) ++ rest) = .whole data true

/-- The placement of an LBA below capacity lies in the zone whose LBA range holds it, with that zone's speed and
WRITE_LOCK: without a REMAP entry at its home location, on the cylinders from the zone's first up, head 0 before head
1; with one at the slot it names, on the zone's spare cylinders in the same order. No two blocks share a home
location: zones that follow one another on the cylinders give distinct sectors to distinct LBAs. -/
def Obligations.BlocksArePlaced : Prop :=
  (∀ (t : Tables) (n zone : Nat) (z : Zone), t.zoneRecs = deriveZones t.zones → t.zones[zone]? = some z →
    let blocks := fun (y : Zone) => (y.cylCount - y.spareCyl) * 2 * y.spt
    let first := ((t.zones.take zone).map blocks).sum
    first ≤ n → n < first + blocks z →
    let at' := fun (cylinder k : Nat) (source : Source) (p : Placement) =>
      p = { lba := n, zone := zone, cylinder := cylinder + k / z.spt / 2, head := k / z.spt % 2, sector := k % z.spt
            source := source, writeLock := z.writeLock, rpm := z.rpm }
    ((∀ slot o, .remap n slot o ∉ t.map) → at' z.firstCyl (n - first) .home (t.placement n)) ∧
    ∀ older slot o younger, t.map = older ++ .remap n slot o :: younger → (∀ k o, .remap n k o ∉ older) →
      at' (z.firstCyl + z.cylCount - z.spareCyl) slot (.spare slot) (t.placement n)) ∧
  ∀ (t : Tables) (n m : Nat), t.zoneRecs = deriveZones t.zones →
    t.zones.Pairwise (fun a b => a.firstCyl + a.cylCount ≤ b.firstCyl) → (∀ z ∈ t.zones, 0 < z.spt) →
    n < t.capacity → m < t.capacity → t.homeLocation n = t.homeLocation m → n = m

/-- A map change keeps the map's order and gains exactly its entry; the slot's state and the free count follow, the
generation advances by one, from 65535 to 1, and the image follows. A slot that failed is retired; one that succeeded
is named by a new REMAP entry, or by the LBA's own, whose old slot is then retired. -/
def Obligations.MapChangeKeepsOrder : Prop :=
  (∀ (d : Defect) (map : List Defect), map.Pairwise (fun a b => a.before b = true) →
    (∀ e ∈ map, e.sameKey d = false) →
    (insertDefect d map).Pairwise (fun a b => a.before b = true) ∧ (insertDefect d map).Perm (d :: map)) ∧
  ∀ (t : Tables) (a : ActiveSet) (zone slot : Nat), t.active = some a →
    let marked := fun (rows : List ZoneSlots) (k : Nat) (st : SlotState) => modifyAt rows zone fun row =>
      ⟨modifyAt row.states k fun _ => st, (modifyAt row.states k fun _ => st).count .free⟩
    let changed := fun (u : Tables) (map : List Defect) (slots : List ZoneSlots) =>
      u.active = some { a with map := map } ∧ u.slots = slots ∧
      u.generation = (if t.generation = 0xFFFF then 1 else t.generation + 1) ∧
      u.image = imageOf u.generation { a with map := map } ∧
      (t.staging.defect.state ≠ .empty → u.staging.defect.state = .stale) ∧
      (t.staging.defect.state = .empty → u.staging = t.staging)
    changed (t.retireSlot zone slot) (insertDefect (.retire zone slot .grown) a.map) (marked t.slots slot .retired) ∧
    ∀ lba,
      ((∀ k o, .remap lba k o ∉ a.map) →
        changed (t.remapTo lba zone slot) (insertDefect (.remap lba slot .grown) a.map) (marked t.slots slot .used)) ∧
      ∀ older old o younger, a.map = older ++ .remap lba old o :: younger →
        (∀ k o, .remap lba k o ∉ older) → (∀ k o, .remap lba k o ∉ younger) →
        changed (t.remapTo lba zone slot)
          (insertDefect (.retire zone old .grown) (older ++ .remap lba slot .grown :: younger))
          (marked (marked t.slots old .retired) slot .used)

/-- The retained image of any set that passes the checks, with a generation that is not 0, starts WARM with exactly
that set and generation. -/
def Obligations.RetainedImageRestores : Prop :=
  ∀ (g : BitVec 16) (a : ActiveSet), g ≠ 0 → a.code.length = 64 →
    (∀ raw : RawImage,
      raw = ⟨g, [a.device.bytes], a.zones.map Zone.bytes, a.code.map fun b => [b], a.map.map Defect.bytes⟩ →
      raw.valid = true ∧ raw.toSet = a) →
    let t := startTables (imageOf g a)
    t.active = some a ∧ t.generation = g ∧ t.start = .warm ∧ t.zoneRecs = deriveZones a.zones ∧
    t.slots = buildSlots (deriveZones a.zones) a.map ∧ t.inverse = buildInverse a.code ∧ t.image = imageOf g a

end
end

