-- ==== Sys2Proof/Laws/Bits.lean ====
section
/-!
SUPPORT. Laws of the byte, check and list helpers of Machine/Bits.lean.
-/

set_option Elab.async false

namespace Sys2Proof.Machine

/-! ## Bytes and big-endian fields -/

@[simp] theorem forced_eq {α : Type} (n : Nat) (k : Nat → α) : forced n k = k n := by
  cases n <;> rfl

@[simp] theorem byte_toNat (n : Nat) : (byte n).toNat = n % 256 := by simp [byte]

@[simp] theorem be16_length (n : Nat) : (be16 n).length = 2 := rfl
@[simp] theorem be24_length (n : Nat) : (be24 n).length = 3 := rfl
@[simp] theorem be32_length (n : Nat) : (be32 n).length = 4 := rfl

/-- A 16-bit field reads back as it was written (00_scope.md, byte order). -/
theorem beNat_be16 (n : Nat) (h : n < 65536) : beNat (be16 n) = n := by
  simp [beNat, be16]; omega

/-- A 24-bit field reads back as it was written. -/
theorem beNat_be24 (n : Nat) (h : n < 16777216) : beNat (be24 n) = n := by
  simp [beNat, be24]; omega

/-- The 16-bit check fits its two bytes (01 R6). -/
theorem crc16_lt (bs : List Byte) : crc16 bs < 65536 := Nat.mod_lt _ (by decide)

/-- The check reads back from the two bytes it is sent in (09 R154). -/
theorem beNat_be16_crc16 (bs : List Byte) : beNat (be16 (crc16 bs)) = crc16 bs :=
  beNat_be16 _ (crc16_lt bs)

/-! ## Frames (09 R154) -/

theorem frameBody_length (kind tag : Byte) (payload : List Byte) :
    (frameBody kind tag payload).length = payload.length + 4 := by
  simp [frameBody]; omega

/-- SYNC, two LEN bytes, KIND, TAG, the payload and two CRC bytes. -/
theorem frameBytes_length (kind tag : Byte) (payload : List Byte) :
    (frameBytes kind tag payload).length = payload.length + 7 := by
  simp [frameBytes, frameBody_length]

/-! ## Elements replaced -/

@[simp] theorem modifyAt_length {α : Type} (xs : List α) (i : Nat) (f : α → α) :
    (modifyAt xs i f).length = xs.length := by
  induction xs generalizing i with
  | nil => rfl
  | cons x xs ih => cases i <;> simp [modifyAt, ih]

/-- Element `i` is changed, every other is left. -/
theorem modifyAt_getElem? {α : Type} (xs : List α) (i j : Nat) (f : α → α) :
    (modifyAt xs i f)[j]? = if i = j then xs[j]?.map f else xs[j]? := by
  induction xs generalizing i j with
  | nil => simp [modifyAt]
  | cons x xs ih =>
    cases i <;> cases j <;> simp [modifyAt, ih]

/-! ## Saturating counters (01 R21) -/

/-- A counter below its end rises by one. -/
theorem bump_toNat (c : Counter) : (bump c).toNat = min 65535 (c.toNat + 1) := by
  unfold bump
  split
  · rename_i h; subst h; rfl
  · rename_i h
    have hne : c.toNat ≠ 65535 := fun e => h (BitVec.eq_of_toNat_eq e)
    have hlt := c.isLt
    have h1 : (1 : Counter).toNat = 1 := rfl
    rw [BitVec.toNat_add, h1]
    omega

end Sys2Proof.Machine
end

