-- ==== Sys2Proof/Laws/State.lean ====
section
/-!
SUPPORT. One lemma per field of State per replacement of a block's state, so that no proof unfolds a record
update: the field replaced reads as the new value, every other field reads as before.
-/

set_option Elab.async false

namespace Sys2Proof.Machine

/-! ## State.setLines -/

@[simp] theorem State.setLines_lines (s : State) (x : Lines) : (s.setLines x).lines = x := rfl
@[simp] theorem State.setLines_link (s : State) (x : Lines) : (s.setLines x).link = s.link := rfl
@[simp] theorem State.setLines_arb (s : State) (x : Lines) : (s.setLines x).arb = s.arb := rfl
@[simp] theorem State.setLines_queue (s : State) (x : Lines) : (s.setLines x).queue = s.queue := rfl
@[simp] theorem State.setLines_buffer (s : State) (x : Lines) : (s.setLines x).buffer = s.buffer := rfl
@[simp] theorem State.setLines_tables (s : State) (x : Lines) : (s.setLines x).tables = s.tables := rfl
@[simp] theorem State.setLines_engine (s : State) (x : Lines) : (s.setLines x).engine = s.engine := rfl
@[simp] theorem State.setLines_codec (s : State) (x : Lines) : (s.setLines x).codec = s.codec := rfl
@[simp] theorem State.setLines_spindle (s : State) (x : Lines) : (s.setLines x).spindle = s.spindle := rfl
@[simp] theorem State.setLines_pos (s : State) (x : Lines) : (s.setLines x).pos = s.pos := rfl
@[simp] theorem State.setLines_events (s : State) (x : Lines) : (s.setLines x).events = s.events := rfl
@[simp] theorem State.setLines_pins (s : State) (x : Lines) : (s.setLines x).pins = s.pins := rfl
@[simp] theorem State.setLines_pending (s : State) (x : Lines) : (s.setLines x).pending = s.pending := rfl

/-! ## State.setLink -/

@[simp] theorem State.setLink_lines (s : State) (x : Link) : (s.setLink x).lines = s.lines := rfl
@[simp] theorem State.setLink_link (s : State) (x : Link) : (s.setLink x).link = x := rfl
@[simp] theorem State.setLink_arb (s : State) (x : Link) : (s.setLink x).arb = s.arb := rfl
@[simp] theorem State.setLink_queue (s : State) (x : Link) : (s.setLink x).queue = s.queue := rfl
@[simp] theorem State.setLink_buffer (s : State) (x : Link) : (s.setLink x).buffer = s.buffer := rfl
@[simp] theorem State.setLink_tables (s : State) (x : Link) : (s.setLink x).tables = s.tables := rfl
@[simp] theorem State.setLink_engine (s : State) (x : Link) : (s.setLink x).engine = s.engine := rfl
@[simp] theorem State.setLink_codec (s : State) (x : Link) : (s.setLink x).codec = s.codec := rfl
@[simp] theorem State.setLink_spindle (s : State) (x : Link) : (s.setLink x).spindle = s.spindle := rfl
@[simp] theorem State.setLink_pos (s : State) (x : Link) : (s.setLink x).pos = s.pos := rfl
@[simp] theorem State.setLink_events (s : State) (x : Link) : (s.setLink x).events = s.events := rfl
@[simp] theorem State.setLink_pins (s : State) (x : Link) : (s.setLink x).pins = s.pins := rfl
@[simp] theorem State.setLink_pending (s : State) (x : Link) : (s.setLink x).pending = s.pending := rfl

/-! ## State.setArb -/

@[simp] theorem State.setArb_lines (s : State) (x : Arbiter) : (s.setArb x).lines = s.lines := rfl
@[simp] theorem State.setArb_link (s : State) (x : Arbiter) : (s.setArb x).link = s.link := rfl
@[simp] theorem State.setArb_arb (s : State) (x : Arbiter) : (s.setArb x).arb = x := rfl
@[simp] theorem State.setArb_queue (s : State) (x : Arbiter) : (s.setArb x).queue = s.queue := rfl
@[simp] theorem State.setArb_buffer (s : State) (x : Arbiter) : (s.setArb x).buffer = s.buffer := rfl
@[simp] theorem State.setArb_tables (s : State) (x : Arbiter) : (s.setArb x).tables = s.tables := rfl
@[simp] theorem State.setArb_engine (s : State) (x : Arbiter) : (s.setArb x).engine = s.engine := rfl
@[simp] theorem State.setArb_codec (s : State) (x : Arbiter) : (s.setArb x).codec = s.codec := rfl
@[simp] theorem State.setArb_spindle (s : State) (x : Arbiter) : (s.setArb x).spindle = s.spindle := rfl
@[simp] theorem State.setArb_pos (s : State) (x : Arbiter) : (s.setArb x).pos = s.pos := rfl
@[simp] theorem State.setArb_events (s : State) (x : Arbiter) : (s.setArb x).events = s.events := rfl
@[simp] theorem State.setArb_pins (s : State) (x : Arbiter) : (s.setArb x).pins = s.pins := rfl
@[simp] theorem State.setArb_pending (s : State) (x : Arbiter) : (s.setArb x).pending = s.pending := rfl

/-! ## State.setQueue -/

@[simp] theorem State.setQueue_lines (s : State) (x : Queue) : (s.setQueue x).lines = s.lines := rfl
@[simp] theorem State.setQueue_link (s : State) (x : Queue) : (s.setQueue x).link = s.link := rfl
@[simp] theorem State.setQueue_arb (s : State) (x : Queue) : (s.setQueue x).arb = s.arb := rfl
@[simp] theorem State.setQueue_queue (s : State) (x : Queue) : (s.setQueue x).queue = x := rfl
@[simp] theorem State.setQueue_buffer (s : State) (x : Queue) : (s.setQueue x).buffer = s.buffer := rfl
@[simp] theorem State.setQueue_tables (s : State) (x : Queue) : (s.setQueue x).tables = s.tables := rfl
@[simp] theorem State.setQueue_engine (s : State) (x : Queue) : (s.setQueue x).engine = s.engine := rfl
@[simp] theorem State.setQueue_codec (s : State) (x : Queue) : (s.setQueue x).codec = s.codec := rfl
@[simp] theorem State.setQueue_spindle (s : State) (x : Queue) : (s.setQueue x).spindle = s.spindle := rfl
@[simp] theorem State.setQueue_pos (s : State) (x : Queue) : (s.setQueue x).pos = s.pos := rfl
@[simp] theorem State.setQueue_events (s : State) (x : Queue) : (s.setQueue x).events = s.events := rfl
@[simp] theorem State.setQueue_pins (s : State) (x : Queue) : (s.setQueue x).pins = s.pins := rfl
@[simp] theorem State.setQueue_pending (s : State) (x : Queue) : (s.setQueue x).pending = s.pending := rfl

/-! ## State.setBuffer -/

@[simp] theorem State.setBuffer_lines (s : State) (x : Buffer) : (s.setBuffer x).lines = s.lines := rfl
@[simp] theorem State.setBuffer_link (s : State) (x : Buffer) : (s.setBuffer x).link = s.link := rfl
@[simp] theorem State.setBuffer_arb (s : State) (x : Buffer) : (s.setBuffer x).arb = s.arb := rfl
@[simp] theorem State.setBuffer_queue (s : State) (x : Buffer) : (s.setBuffer x).queue = s.queue := rfl
@[simp] theorem State.setBuffer_buffer (s : State) (x : Buffer) : (s.setBuffer x).buffer = x := rfl
@[simp] theorem State.setBuffer_tables (s : State) (x : Buffer) : (s.setBuffer x).tables = s.tables := rfl
@[simp] theorem State.setBuffer_engine (s : State) (x : Buffer) : (s.setBuffer x).engine = s.engine := rfl
@[simp] theorem State.setBuffer_codec (s : State) (x : Buffer) : (s.setBuffer x).codec = s.codec := rfl
@[simp] theorem State.setBuffer_spindle (s : State) (x : Buffer) : (s.setBuffer x).spindle = s.spindle := rfl
@[simp] theorem State.setBuffer_pos (s : State) (x : Buffer) : (s.setBuffer x).pos = s.pos := rfl
@[simp] theorem State.setBuffer_events (s : State) (x : Buffer) : (s.setBuffer x).events = s.events := rfl
@[simp] theorem State.setBuffer_pins (s : State) (x : Buffer) : (s.setBuffer x).pins = s.pins := rfl
@[simp] theorem State.setBuffer_pending (s : State) (x : Buffer) : (s.setBuffer x).pending = s.pending := rfl

/-! ## State.setTables -/

@[simp] theorem State.setTables_lines (s : State) (x : Tables) : (s.setTables x).lines = s.lines := rfl
@[simp] theorem State.setTables_link (s : State) (x : Tables) : (s.setTables x).link = s.link := rfl
@[simp] theorem State.setTables_arb (s : State) (x : Tables) : (s.setTables x).arb = s.arb := rfl
@[simp] theorem State.setTables_queue (s : State) (x : Tables) : (s.setTables x).queue = s.queue := rfl
@[simp] theorem State.setTables_buffer (s : State) (x : Tables) : (s.setTables x).buffer = s.buffer := rfl
@[simp] theorem State.setTables_tables (s : State) (x : Tables) : (s.setTables x).tables = x := rfl
@[simp] theorem State.setTables_engine (s : State) (x : Tables) : (s.setTables x).engine = s.engine := rfl
@[simp] theorem State.setTables_codec (s : State) (x : Tables) : (s.setTables x).codec = s.codec := rfl
@[simp] theorem State.setTables_spindle (s : State) (x : Tables) : (s.setTables x).spindle = s.spindle := rfl
@[simp] theorem State.setTables_pos (s : State) (x : Tables) : (s.setTables x).pos = s.pos := rfl
@[simp] theorem State.setTables_events (s : State) (x : Tables) : (s.setTables x).events = s.events := rfl
@[simp] theorem State.setTables_pins (s : State) (x : Tables) : (s.setTables x).pins = s.pins := rfl
@[simp] theorem State.setTables_pending (s : State) (x : Tables) : (s.setTables x).pending = s.pending := rfl

/-! ## State.setEngine -/

@[simp] theorem State.setEngine_lines (s : State) (x : Engine) : (s.setEngine x).lines = s.lines := rfl
@[simp] theorem State.setEngine_link (s : State) (x : Engine) : (s.setEngine x).link = s.link := rfl
@[simp] theorem State.setEngine_arb (s : State) (x : Engine) : (s.setEngine x).arb = s.arb := rfl
@[simp] theorem State.setEngine_queue (s : State) (x : Engine) : (s.setEngine x).queue = s.queue := rfl
@[simp] theorem State.setEngine_buffer (s : State) (x : Engine) : (s.setEngine x).buffer = s.buffer := rfl
@[simp] theorem State.setEngine_tables (s : State) (x : Engine) : (s.setEngine x).tables = s.tables := rfl
@[simp] theorem State.setEngine_engine (s : State) (x : Engine) : (s.setEngine x).engine = x := rfl
@[simp] theorem State.setEngine_codec (s : State) (x : Engine) : (s.setEngine x).codec = s.codec := rfl
@[simp] theorem State.setEngine_spindle (s : State) (x : Engine) : (s.setEngine x).spindle = s.spindle := rfl
@[simp] theorem State.setEngine_pos (s : State) (x : Engine) : (s.setEngine x).pos = s.pos := rfl
@[simp] theorem State.setEngine_events (s : State) (x : Engine) : (s.setEngine x).events = s.events := rfl
@[simp] theorem State.setEngine_pins (s : State) (x : Engine) : (s.setEngine x).pins = s.pins := rfl
@[simp] theorem State.setEngine_pending (s : State) (x : Engine) : (s.setEngine x).pending = s.pending := rfl

/-! ## State.setCodec -/

@[simp] theorem State.setCodec_lines (s : State) (x : Codec) : (s.setCodec x).lines = s.lines := rfl
@[simp] theorem State.setCodec_link (s : State) (x : Codec) : (s.setCodec x).link = s.link := rfl
@[simp] theorem State.setCodec_arb (s : State) (x : Codec) : (s.setCodec x).arb = s.arb := rfl
@[simp] theorem State.setCodec_queue (s : State) (x : Codec) : (s.setCodec x).queue = s.queue := rfl
@[simp] theorem State.setCodec_buffer (s : State) (x : Codec) : (s.setCodec x).buffer = s.buffer := rfl
@[simp] theorem State.setCodec_tables (s : State) (x : Codec) : (s.setCodec x).tables = s.tables := rfl
@[simp] theorem State.setCodec_engine (s : State) (x : Codec) : (s.setCodec x).engine = s.engine := rfl
@[simp] theorem State.setCodec_codec (s : State) (x : Codec) : (s.setCodec x).codec = x := rfl
@[simp] theorem State.setCodec_spindle (s : State) (x : Codec) : (s.setCodec x).spindle = s.spindle := rfl
@[simp] theorem State.setCodec_pos (s : State) (x : Codec) : (s.setCodec x).pos = s.pos := rfl
@[simp] theorem State.setCodec_events (s : State) (x : Codec) : (s.setCodec x).events = s.events := rfl
@[simp] theorem State.setCodec_pins (s : State) (x : Codec) : (s.setCodec x).pins = s.pins := rfl
@[simp] theorem State.setCodec_pending (s : State) (x : Codec) : (s.setCodec x).pending = s.pending := rfl

/-! ## State.setSpindle -/

@[simp] theorem State.setSpindle_lines (s : State) (x : Spindle) : (s.setSpindle x).lines = s.lines := rfl
@[simp] theorem State.setSpindle_link (s : State) (x : Spindle) : (s.setSpindle x).link = s.link := rfl
@[simp] theorem State.setSpindle_arb (s : State) (x : Spindle) : (s.setSpindle x).arb = s.arb := rfl
@[simp] theorem State.setSpindle_queue (s : State) (x : Spindle) : (s.setSpindle x).queue = s.queue := rfl
@[simp] theorem State.setSpindle_buffer (s : State) (x : Spindle) : (s.setSpindle x).buffer = s.buffer := rfl
@[simp] theorem State.setSpindle_tables (s : State) (x : Spindle) : (s.setSpindle x).tables = s.tables := rfl
@[simp] theorem State.setSpindle_engine (s : State) (x : Spindle) : (s.setSpindle x).engine = s.engine := rfl
@[simp] theorem State.setSpindle_codec (s : State) (x : Spindle) : (s.setSpindle x).codec = s.codec := rfl
@[simp] theorem State.setSpindle_spindle (s : State) (x : Spindle) : (s.setSpindle x).spindle = x := rfl
@[simp] theorem State.setSpindle_pos (s : State) (x : Spindle) : (s.setSpindle x).pos = s.pos := rfl
@[simp] theorem State.setSpindle_events (s : State) (x : Spindle) : (s.setSpindle x).events = s.events := rfl
@[simp] theorem State.setSpindle_pins (s : State) (x : Spindle) : (s.setSpindle x).pins = s.pins := rfl
@[simp] theorem State.setSpindle_pending (s : State) (x : Spindle) : (s.setSpindle x).pending = s.pending := rfl

/-! ## State.setPos -/

@[simp] theorem State.setPos_lines (s : State) (x : Positioner) : (s.setPos x).lines = s.lines := rfl
@[simp] theorem State.setPos_link (s : State) (x : Positioner) : (s.setPos x).link = s.link := rfl
@[simp] theorem State.setPos_arb (s : State) (x : Positioner) : (s.setPos x).arb = s.arb := rfl
@[simp] theorem State.setPos_queue (s : State) (x : Positioner) : (s.setPos x).queue = s.queue := rfl
@[simp] theorem State.setPos_buffer (s : State) (x : Positioner) : (s.setPos x).buffer = s.buffer := rfl
@[simp] theorem State.setPos_tables (s : State) (x : Positioner) : (s.setPos x).tables = s.tables := rfl
@[simp] theorem State.setPos_engine (s : State) (x : Positioner) : (s.setPos x).engine = s.engine := rfl
@[simp] theorem State.setPos_codec (s : State) (x : Positioner) : (s.setPos x).codec = s.codec := rfl
@[simp] theorem State.setPos_spindle (s : State) (x : Positioner) : (s.setPos x).spindle = s.spindle := rfl
@[simp] theorem State.setPos_pos (s : State) (x : Positioner) : (s.setPos x).pos = x := rfl
@[simp] theorem State.setPos_events (s : State) (x : Positioner) : (s.setPos x).events = s.events := rfl
@[simp] theorem State.setPos_pins (s : State) (x : Positioner) : (s.setPos x).pins = s.pins := rfl
@[simp] theorem State.setPos_pending (s : State) (x : Positioner) : (s.setPos x).pending = s.pending := rfl

/-! ## State.setEvents -/

@[simp] theorem State.setEvents_lines (s : State) (x : Events) : (s.setEvents x).lines = s.lines := rfl
@[simp] theorem State.setEvents_link (s : State) (x : Events) : (s.setEvents x).link = s.link := rfl
@[simp] theorem State.setEvents_arb (s : State) (x : Events) : (s.setEvents x).arb = s.arb := rfl
@[simp] theorem State.setEvents_queue (s : State) (x : Events) : (s.setEvents x).queue = s.queue := rfl
@[simp] theorem State.setEvents_buffer (s : State) (x : Events) : (s.setEvents x).buffer = s.buffer := rfl
@[simp] theorem State.setEvents_tables (s : State) (x : Events) : (s.setEvents x).tables = s.tables := rfl
@[simp] theorem State.setEvents_engine (s : State) (x : Events) : (s.setEvents x).engine = s.engine := rfl
@[simp] theorem State.setEvents_codec (s : State) (x : Events) : (s.setEvents x).codec = s.codec := rfl
@[simp] theorem State.setEvents_spindle (s : State) (x : Events) : (s.setEvents x).spindle = s.spindle := rfl
@[simp] theorem State.setEvents_pos (s : State) (x : Events) : (s.setEvents x).pos = s.pos := rfl
@[simp] theorem State.setEvents_events (s : State) (x : Events) : (s.setEvents x).events = x := rfl
@[simp] theorem State.setEvents_pins (s : State) (x : Events) : (s.setEvents x).pins = s.pins := rfl
@[simp] theorem State.setEvents_pending (s : State) (x : Events) : (s.setEvents x).pending = s.pending := rfl

/-! ## State.setPins -/

@[simp] theorem State.setPins_lines (s : State) (x : Pins) : (s.setPins x).lines = s.lines := rfl
@[simp] theorem State.setPins_link (s : State) (x : Pins) : (s.setPins x).link = s.link := rfl
@[simp] theorem State.setPins_arb (s : State) (x : Pins) : (s.setPins x).arb = s.arb := rfl
@[simp] theorem State.setPins_queue (s : State) (x : Pins) : (s.setPins x).queue = s.queue := rfl
@[simp] theorem State.setPins_buffer (s : State) (x : Pins) : (s.setPins x).buffer = s.buffer := rfl
@[simp] theorem State.setPins_tables (s : State) (x : Pins) : (s.setPins x).tables = s.tables := rfl
@[simp] theorem State.setPins_engine (s : State) (x : Pins) : (s.setPins x).engine = s.engine := rfl
@[simp] theorem State.setPins_codec (s : State) (x : Pins) : (s.setPins x).codec = s.codec := rfl
@[simp] theorem State.setPins_spindle (s : State) (x : Pins) : (s.setPins x).spindle = s.spindle := rfl
@[simp] theorem State.setPins_pos (s : State) (x : Pins) : (s.setPins x).pos = s.pos := rfl
@[simp] theorem State.setPins_events (s : State) (x : Pins) : (s.setPins x).events = s.events := rfl
@[simp] theorem State.setPins_pins (s : State) (x : Pins) : (s.setPins x).pins = x := rfl
@[simp] theorem State.setPins_pending (s : State) (x : Pins) : (s.setPins x).pending = s.pending := rfl

/-! ## State.setPending -/

@[simp] theorem State.setPending_lines (s : State) (x : List Instr) : (s.setPending x).lines = s.lines := rfl
@[simp] theorem State.setPending_link (s : State) (x : List Instr) : (s.setPending x).link = s.link := rfl
@[simp] theorem State.setPending_arb (s : State) (x : List Instr) : (s.setPending x).arb = s.arb := rfl
@[simp] theorem State.setPending_queue (s : State) (x : List Instr) : (s.setPending x).queue = s.queue := rfl
@[simp] theorem State.setPending_buffer (s : State) (x : List Instr) : (s.setPending x).buffer = s.buffer := rfl
@[simp] theorem State.setPending_tables (s : State) (x : List Instr) : (s.setPending x).tables = s.tables := rfl
@[simp] theorem State.setPending_engine (s : State) (x : List Instr) : (s.setPending x).engine = s.engine := rfl
@[simp] theorem State.setPending_codec (s : State) (x : List Instr) : (s.setPending x).codec = s.codec := rfl
@[simp] theorem State.setPending_spindle (s : State) (x : List Instr) : (s.setPending x).spindle = s.spindle := rfl
@[simp] theorem State.setPending_pos (s : State) (x : List Instr) : (s.setPending x).pos = s.pos := rfl
@[simp] theorem State.setPending_events (s : State) (x : List Instr) : (s.setPending x).events = s.events := rfl
@[simp] theorem State.setPending_pins (s : State) (x : List Instr) : (s.setPending x).pins = s.pins := rfl
@[simp] theorem State.setPending_pending (s : State) (x : List Instr) : (s.setPending x).pending = x := rfl

/-! ## The state after a reset -/

@[simp] theorem State.afterReset_lines (t : Tables) (p : Pins) (l : List Instr) : (State.afterReset t p l).lines = ⟨false, false, none⟩ := rfl
@[simp] theorem State.afterReset_link (t : Tables) (p : Pins) (l : List Instr) : (State.afterReset t p l).link = .reset := rfl
@[simp] theorem State.afterReset_arb (t : Tables) (p : Pins) (l : List Instr) : (State.afterReset t p l).arb = .reset := rfl
@[simp] theorem State.afterReset_queue (t : Tables) (p : Pins) (l : List Instr) : (State.afterReset t p l).queue = .reset := rfl
@[simp] theorem State.afterReset_buffer (t : Tables) (p : Pins) (l : List Instr) : (State.afterReset t p l).buffer = .reset := rfl
@[simp] theorem State.afterReset_tables (t : Tables) (p : Pins) (l : List Instr) : (State.afterReset t p l).tables = t := rfl
@[simp] theorem State.afterReset_engine (t : Tables) (p : Pins) (l : List Instr) : (State.afterReset t p l).engine = .reset := rfl
@[simp] theorem State.afterReset_codec (t : Tables) (p : Pins) (l : List Instr) : (State.afterReset t p l).codec = .reset := rfl
@[simp] theorem State.afterReset_spindle (t : Tables) (p : Pins) (l : List Instr) : (State.afterReset t p l).spindle = .reset := rfl
@[simp] theorem State.afterReset_pos (t : Tables) (p : Pins) (l : List Instr) : (State.afterReset t p l).pos = .reset := rfl
@[simp] theorem State.afterReset_events (t : Tables) (p : Pins) (l : List Instr) : (State.afterReset t p l).events = .reset := rfl
@[simp] theorem State.afterReset_pins (t : Tables) (p : Pins) (l : List Instr) : (State.afterReset t p l).pins = p := rfl
@[simp] theorem State.afterReset_pending (t : Tables) (p : Pins) (l : List Instr) : (State.afterReset t p l).pending = l := rfl

end Sys2Proof.Machine
end

