-- ==== Sys2Proof/Laws/Arbiter.lean ====
section
/-!
SUPPORT. What the arbiter, the frame producers and the event unit leave alone (09 R166, 11 R190, R191): every block but
the arbiter, the buffer manager and the event unit, and in those two the parts named here.
-/

set_option Elab.async false

namespace Sys2Proof.Machine

/-! ## Starting a frame -/

theorem startDoneCall_frame (f : DoneCall) (rest : List DoneCall) (s : State) :
    startDoneCall f rest s = { s with
      arb := (startDoneCall f rest s).arb, buffer := (startDoneCall f rest s).buffer } := by
  cases f <;> rfl

theorem startBlock_frame (p : Nat) (rest : List Nat) (s : State) :
    startBlock p rest s = { s with
      arb := (startBlock p rest s).arb, buffer := (startBlock p rest s).buffer } := by
  unfold startBlock; split <;> rfl

theorem startEvent_frame (s : State) :
    startEvent s = { s with arb := (startEvent s).arb, events := (startEvent s).events } := by
  unfold startEvent; split <;> rfl

/-- Everything the arbiter's choice can change. -/
theorem arbitrate_frame (s : State) :
    arbitrate s = { s with
      arb := (arbitrate s).arb, buffer := (arbitrate s).buffer, events := (arbitrate s).events } := by
  unfold arbitrate
  split
  · rfl
  · split
    · rfl
    · rfl
    · rw [startDoneCall_frame]
    · rw [startBlock_frame]
    · rw [startEvent_frame]

/-! ## The other blocks -/

@[simp] theorem arbitrate_lines (s : State) : (arbitrate s).lines = s.lines := by
  rw [arbitrate_frame]
@[simp] theorem arbitrate_link (s : State) : (arbitrate s).link = s.link := by
  rw [arbitrate_frame]
@[simp] theorem arbitrate_queue (s : State) : (arbitrate s).queue = s.queue := by
  rw [arbitrate_frame]
@[simp] theorem arbitrate_tables (s : State) : (arbitrate s).tables = s.tables := by
  rw [arbitrate_frame]
@[simp] theorem arbitrate_engine (s : State) : (arbitrate s).engine = s.engine := by
  rw [arbitrate_frame]
@[simp] theorem arbitrate_codec (s : State) : (arbitrate s).codec = s.codec := by
  rw [arbitrate_frame]
@[simp] theorem arbitrate_spindle (s : State) : (arbitrate s).spindle = s.spindle := by
  rw [arbitrate_frame]
@[simp] theorem arbitrate_pos (s : State) : (arbitrate s).pos = s.pos := by
  rw [arbitrate_frame]
@[simp] theorem arbitrate_pins (s : State) : (arbitrate s).pins = s.pins := by
  rw [arbitrate_frame]
@[simp] theorem arbitrate_pending (s : State) : (arbitrate s).pending = s.pending := by
  rw [arbitrate_frame]

@[simp] theorem arbitrate_resetHeld (s : State) : (arbitrate s).resetHeld = s.resetHeld := by
  simp [State.resetHeld]


@[simp] theorem freeLane_lines (s : State) : (freeLane s).lines = s.lines := by
  simp [freeLane]
@[simp] theorem freeLane_link (s : State) : (freeLane s).link = s.link := by
  simp [freeLane]
@[simp] theorem freeLane_queue (s : State) : (freeLane s).queue = s.queue := by
  simp [freeLane]
@[simp] theorem freeLane_tables (s : State) : (freeLane s).tables = s.tables := by
  simp [freeLane]
@[simp] theorem freeLane_engine (s : State) : (freeLane s).engine = s.engine := by
  simp [freeLane]
@[simp] theorem freeLane_codec (s : State) : (freeLane s).codec = s.codec := by
  simp [freeLane]
@[simp] theorem freeLane_spindle (s : State) : (freeLane s).spindle = s.spindle := by
  simp [freeLane]
@[simp] theorem freeLane_pos (s : State) : (freeLane s).pos = s.pos := by
  simp [freeLane]
@[simp] theorem freeLane_pins (s : State) : (freeLane s).pins = s.pins := by
  simp [freeLane]
@[simp] theorem freeLane_pending (s : State) : (freeLane s).pending = s.pending := by
  simp [freeLane]

@[simp] theorem produceReply_lines (seq : Byte) (body : ReplyBody) (s : State) : (produceReply seq body s).lines = s.lines := by
  simp [produceReply]
@[simp] theorem produceReply_link (seq : Byte) (body : ReplyBody) (s : State) : (produceReply seq body s).link = s.link := by
  simp [produceReply]
@[simp] theorem produceReply_queue (seq : Byte) (body : ReplyBody) (s : State) : (produceReply seq body s).queue = s.queue := by
  simp [produceReply]
@[simp] theorem produceReply_tables (seq : Byte) (body : ReplyBody) (s : State) : (produceReply seq body s).tables = s.tables := by
  simp [produceReply]
@[simp] theorem produceReply_engine (seq : Byte) (body : ReplyBody) (s : State) : (produceReply seq body s).engine = s.engine := by
  simp [produceReply]
@[simp] theorem produceReply_codec (seq : Byte) (body : ReplyBody) (s : State) : (produceReply seq body s).codec = s.codec := by
  simp [produceReply]
@[simp] theorem produceReply_spindle (seq : Byte) (body : ReplyBody) (s : State) : (produceReply seq body s).spindle = s.spindle := by
  simp [produceReply]
@[simp] theorem produceReply_pos (seq : Byte) (body : ReplyBody) (s : State) : (produceReply seq body s).pos = s.pos := by
  simp [produceReply]
@[simp] theorem produceReply_pins (seq : Byte) (body : ReplyBody) (s : State) : (produceReply seq body s).pins = s.pins := by
  simp [produceReply]
@[simp] theorem produceReply_pending (seq : Byte) (body : ReplyBody) (s : State) : (produceReply seq body s).pending = s.pending := by
  simp [produceReply]

@[simp] theorem produceDoneCall_lines (f : DoneCall) (s : State) : (produceDoneCall f s).lines = s.lines := by
  simp [produceDoneCall]
@[simp] theorem produceDoneCall_link (f : DoneCall) (s : State) : (produceDoneCall f s).link = s.link := by
  simp [produceDoneCall]
@[simp] theorem produceDoneCall_queue (f : DoneCall) (s : State) : (produceDoneCall f s).queue = s.queue := by
  simp [produceDoneCall]
@[simp] theorem produceDoneCall_tables (f : DoneCall) (s : State) : (produceDoneCall f s).tables = s.tables := by
  simp [produceDoneCall]
@[simp] theorem produceDoneCall_engine (f : DoneCall) (s : State) : (produceDoneCall f s).engine = s.engine := by
  simp [produceDoneCall]
@[simp] theorem produceDoneCall_codec (f : DoneCall) (s : State) : (produceDoneCall f s).codec = s.codec := by
  simp [produceDoneCall]
@[simp] theorem produceDoneCall_spindle (f : DoneCall) (s : State) : (produceDoneCall f s).spindle = s.spindle := by
  simp [produceDoneCall]
@[simp] theorem produceDoneCall_pos (f : DoneCall) (s : State) : (produceDoneCall f s).pos = s.pos := by
  simp [produceDoneCall]
@[simp] theorem produceDoneCall_pins (f : DoneCall) (s : State) : (produceDoneCall f s).pins = s.pins := by
  simp [produceDoneCall]
@[simp] theorem produceDoneCall_pending (f : DoneCall) (s : State) : (produceDoneCall f s).pending = s.pending := by
  simp [produceDoneCall]

@[simp] theorem offerBlock_lines (p : Nat) (s : State) : (offerBlock p s).lines = s.lines := by
  simp [offerBlock]
@[simp] theorem offerBlock_link (p : Nat) (s : State) : (offerBlock p s).link = s.link := by
  simp [offerBlock]
@[simp] theorem offerBlock_queue (p : Nat) (s : State) : (offerBlock p s).queue = s.queue := by
  simp [offerBlock]
@[simp] theorem offerBlock_tables (p : Nat) (s : State) : (offerBlock p s).tables = s.tables := by
  simp [offerBlock]
@[simp] theorem offerBlock_engine (p : Nat) (s : State) : (offerBlock p s).engine = s.engine := by
  simp [offerBlock]
@[simp] theorem offerBlock_codec (p : Nat) (s : State) : (offerBlock p s).codec = s.codec := by
  simp [offerBlock]
@[simp] theorem offerBlock_spindle (p : Nat) (s : State) : (offerBlock p s).spindle = s.spindle := by
  simp [offerBlock]
@[simp] theorem offerBlock_pos (p : Nat) (s : State) : (offerBlock p s).pos = s.pos := by
  simp [offerBlock]
@[simp] theorem offerBlock_pins (p : Nat) (s : State) : (offerBlock p s).pins = s.pins := by
  simp [offerBlock]
@[simp] theorem offerBlock_pending (p : Nat) (s : State) : (offerBlock p s).pending = s.pending := by
  simp [offerBlock]

@[simp] theorem offerEvent_lines (s : State) : (offerEvent s).lines = s.lines := by
  unfold offerEvent; split <;> simp
@[simp] theorem offerEvent_link (s : State) : (offerEvent s).link = s.link := by
  unfold offerEvent; split <;> simp
@[simp] theorem offerEvent_queue (s : State) : (offerEvent s).queue = s.queue := by
  unfold offerEvent; split <;> simp
@[simp] theorem offerEvent_tables (s : State) : (offerEvent s).tables = s.tables := by
  unfold offerEvent; split <;> simp
@[simp] theorem offerEvent_engine (s : State) : (offerEvent s).engine = s.engine := by
  unfold offerEvent; split <;> simp
@[simp] theorem offerEvent_codec (s : State) : (offerEvent s).codec = s.codec := by
  unfold offerEvent; split <;> simp
@[simp] theorem offerEvent_spindle (s : State) : (offerEvent s).spindle = s.spindle := by
  unfold offerEvent; split <;> simp
@[simp] theorem offerEvent_pos (s : State) : (offerEvent s).pos = s.pos := by
  unfold offerEvent; split <;> simp
@[simp] theorem offerEvent_pins (s : State) : (offerEvent s).pins = s.pins := by
  unfold offerEvent; split <;> simp
@[simp] theorem offerEvent_pending (s : State) : (offerEvent s).pending = s.pending := by
  unfold offerEvent; split <;> simp

@[simp] theorem raiseEvent_lines (k : EventKind) (detail : BitVec 24) (s : State) : (raiseEvent k detail s).lines = s.lines := by
  unfold raiseEvent; split <;> simp
@[simp] theorem raiseEvent_link (k : EventKind) (detail : BitVec 24) (s : State) : (raiseEvent k detail s).link = s.link := by
  unfold raiseEvent; split <;> simp
@[simp] theorem raiseEvent_queue (k : EventKind) (detail : BitVec 24) (s : State) : (raiseEvent k detail s).queue = s.queue := by
  unfold raiseEvent; split <;> simp
@[simp] theorem raiseEvent_tables (k : EventKind) (detail : BitVec 24) (s : State) : (raiseEvent k detail s).tables = s.tables := by
  unfold raiseEvent; split <;> simp
@[simp] theorem raiseEvent_engine (k : EventKind) (detail : BitVec 24) (s : State) : (raiseEvent k detail s).engine = s.engine := by
  unfold raiseEvent; split <;> simp
@[simp] theorem raiseEvent_codec (k : EventKind) (detail : BitVec 24) (s : State) : (raiseEvent k detail s).codec = s.codec := by
  unfold raiseEvent; split <;> simp
@[simp] theorem raiseEvent_spindle (k : EventKind) (detail : BitVec 24) (s : State) : (raiseEvent k detail s).spindle = s.spindle := by
  unfold raiseEvent; split <;> simp
@[simp] theorem raiseEvent_pos (k : EventKind) (detail : BitVec 24) (s : State) : (raiseEvent k detail s).pos = s.pos := by
  unfold raiseEvent; split <;> simp
@[simp] theorem raiseEvent_pins (k : EventKind) (detail : BitVec 24) (s : State) : (raiseEvent k detail s).pins = s.pins := by
  unfold raiseEvent; split <;> simp
@[simp] theorem raiseEvent_pending (k : EventKind) (detail : BitVec 24) (s : State) : (raiseEvent k detail s).pending = s.pending := by
  unfold raiseEvent; split <;> simp

/-! ## The buffer manager's FIFO and the reply queue -/

@[simp] theorem startDoneCall_fifo (f : DoneCall) (rest : List DoneCall) (s : State) :
    (startDoneCall f rest s).buffer.fifo = s.buffer.fifo := by
  cases f <;> rfl

@[simp] theorem startBlock_fifo (p : Nat) (rest : List Nat) (s : State) :
    (startBlock p rest s).buffer.fifo = s.buffer.fifo := by
  unfold startBlock; split <;> rfl

@[simp] theorem startEvent_buffer (s : State) : (startEvent s).buffer = s.buffer := by
  unfold startEvent; split <;> rfl

@[simp] theorem arbitrate_fifo (s : State) : (arbitrate s).buffer.fifo = s.buffer.fifo := by
  unfold arbitrate
  split
  · rfl
  · split <;> simp [State.startFrame]

@[simp] theorem startDoneCall_replies (f : DoneCall) (rest : List DoneCall) (s : State) :
    (startDoneCall f rest s).arb.replies = s.arb.replies := by
  cases f <;> rfl

@[simp] theorem startBlock_replies (p : Nat) (rest : List Nat) (s : State) :
    (startBlock p rest s).arb.replies = s.arb.replies := by
  unfold startBlock; split <;> rfl

@[simp] theorem startEvent_replies (s : State) : (startEvent s).arb.replies = s.arb.replies := by
  unfold startEvent; split <;> rfl

/-- A REPLY stays in its queue until its last byte has left (09 R158). -/
@[simp] theorem arbitrate_replies (s : State) : (arbitrate s).arb.replies = s.arb.replies := by
  unfold arbitrate
  split
  · rfl
  · split <;> simp [State.startFrame]

/-! ## The event unit's queue -/

@[simp] theorem startEvent_events_queue (s : State) : (startEvent s).events.queue = s.events.queue := by
  unfold startEvent; split <;> rfl

/-- The arbiter leaves what is queued and enabled: starting an EVENT only marks its frame (11 R191). -/
@[simp] theorem arbitrate_events_queue (s : State) : (arbitrate s).events.queue = s.events.queue := by
  unfold arbitrate
  split
  · rfl
  · split
    · rfl
    · rfl
    · rw [startDoneCall_frame]
    · rw [startBlock_frame]
    · simp

@[simp] theorem arbitrate_events_mask (s : State) : (arbitrate s).events.mask = s.events.mask := by
  unfold arbitrate
  split
  · rfl
  · split
    · rfl
    · rfl
    · rw [startDoneCall_frame]
    · rw [startBlock_frame]
    · unfold startEvent; split <;> rfl

@[simp] theorem arbitrate_events_sequence (s : State) :
    (arbitrate s).events.sequence = s.events.sequence := by
  unfold arbitrate
  split
  · rfl
  · split
    · rfl
    · rfl
    · rw [startDoneCall_frame]
    · rw [startBlock_frame]
    · unfold startEvent; split <;> rfl

@[simp] theorem arbitrate_outstanding_isSome (s : State) :
    (arbitrate s).events.outstanding.isSome = s.events.outstanding.isSome := by
  unfold arbitrate
  split
  · rfl
  · split
    · rfl
    · rfl
    · rw [startDoneCall_frame]
    · rw [startBlock_frame]
    · unfold startEvent; split
      · rename_i h _; simp [h]
      · rfl

/-! ## Numbers of pages -/

@[simp] theorem startDoneCall_pages (f : DoneCall) (rest : List DoneCall) (s : State) :
    (startDoneCall f rest s).buffer.pages = s.buffer.pages := by
  cases f <;> rfl

@[simp] theorem startBlock_pages_length (p : Nat) (rest : List Nat) (s : State) :
    (startBlock p rest s).buffer.pages.length = s.buffer.pages.length := by
  unfold startBlock; split
  · simp [Buffer.setUse, Buffer.setPage]
  · rfl

@[simp] theorem arbitrate_pages_length (s : State) :
    (arbitrate s).buffer.pages.length = s.buffer.pages.length := by
  unfold arbitrate
  split
  · rfl
  · split <;> simp [State.startFrame]

end Sys2Proof.Machine
end

