-- ==== Sys2Proof/Laws/Buffer.lean ====
section
/-!
SUPPORT. What a grant decision and the production of a DONE leave alone (04 R57, R58; 05 R89), each said once for
every block.
-/

set_option Elab.async false

namespace Sys2Proof.Machine

/-! ## Pages -/

@[simp] theorem assignFree_length (tag : Tag) (n next : Nat) (pages : List Page) :
    (assignFree tag n next pages).length = pages.length := by
  induction pages generalizing next with
  | nil => rfl
  | cons p ps ih => simp only [assignFree]; split <;> simp [ih]

/-! ## One grant -/

@[simp] theorem takePages_lines (tag : Tag) (n : Nat) (rest : List Tag) (s : State) :
    (takePages tag n rest s).lines = s.lines := rfl
@[simp] theorem takePages_link (tag : Tag) (n : Nat) (rest : List Tag) (s : State) :
    (takePages tag n rest s).link = s.link := rfl
@[simp] theorem takePages_tables (tag : Tag) (n : Nat) (rest : List Tag) (s : State) :
    (takePages tag n rest s).tables = s.tables := rfl
@[simp] theorem takePages_codec (tag : Tag) (n : Nat) (rest : List Tag) (s : State) :
    (takePages tag n rest s).codec = s.codec := rfl
@[simp] theorem takePages_spindle (tag : Tag) (n : Nat) (rest : List Tag) (s : State) :
    (takePages tag n rest s).spindle = s.spindle := rfl
@[simp] theorem takePages_pos (tag : Tag) (n : Nat) (rest : List Tag) (s : State) :
    (takePages tag n rest s).pos = s.pos := rfl
@[simp] theorem takePages_pins (tag : Tag) (n : Nat) (rest : List Tag) (s : State) :
    (takePages tag n rest s).pins = s.pins := rfl
@[simp] theorem takePages_pending (tag : Tag) (n : Nat) (rest : List Tag) (s : State) :
    (takePages tag n rest s).pending = s.pending := rfl
@[simp] theorem takePages_engine (tag : Tag) (n : Nat) (rest : List Tag) (s : State) :
    (takePages tag n rest s).engine = s.engine := rfl
@[simp] theorem takePages_queue (tag : Tag) (n : Nat) (rest : List Tag) (s : State) :
    (takePages tag n rest s).queue = s.queue := rfl
@[simp] theorem afterGrant_lines (r : Record) (s : State) : (afterGrant r s).lines = s.lines := by
  unfold afterGrant; split <;> simp [State.setReqState]
@[simp] theorem afterGrant_link (r : Record) (s : State) : (afterGrant r s).link = s.link := by
  unfold afterGrant; split <;> simp [State.setReqState]
@[simp] theorem afterGrant_tables (r : Record) (s : State) : (afterGrant r s).tables = s.tables := by
  unfold afterGrant; split <;> simp [State.setReqState]
@[simp] theorem afterGrant_codec (r : Record) (s : State) : (afterGrant r s).codec = s.codec := by
  unfold afterGrant; split <;> simp [State.setReqState]
@[simp] theorem afterGrant_spindle (r : Record) (s : State) : (afterGrant r s).spindle = s.spindle := by
  unfold afterGrant; split <;> simp [State.setReqState]
@[simp] theorem afterGrant_pos (r : Record) (s : State) : (afterGrant r s).pos = s.pos := by
  unfold afterGrant; split <;> simp [State.setReqState]
@[simp] theorem afterGrant_pins (r : Record) (s : State) : (afterGrant r s).pins = s.pins := by
  unfold afterGrant; split <;> simp [State.setReqState]
@[simp] theorem afterGrant_pending (r : Record) (s : State) : (afterGrant r s).pending = s.pending := by
  unfold afterGrant; split <;> simp [State.setReqState]
@[simp] theorem afterGrant_engine (r : Record) (s : State) : (afterGrant r s).engine = s.engine := by
  unfold afterGrant; split <;> simp [State.setReqState]

/-- A grant changes the request queue only in the state of one record (04 R58). -/
theorem afterGrant_queue (r : Record) (s : State) :
    (afterGrant r s).queue =
      s.queue.update r.tag fun x => { x with state := if r.req.isRead then .ready else .awaitData } := by
  unfold afterGrant; split <;> simp_all [State.setReqState]

theorem Queue.update_tags (q : Queue) (tag : Tag) (f : Record → Record) (hf : ∀ r, (f r).tag = r.tag) :
    (q.update tag f).records.map (·.tag) = q.records.map (·.tag) := by
  simp only [Queue.update, List.map_map]
  apply List.map_congr_left
  intro r _
  simp only [Function.comp_apply]
  split <;> simp [hf]

@[simp] theorem afterGrant_tags (r : Record) (s : State) :
    (afterGrant r s).queue.records.map (·.tag) = s.queue.records.map (·.tag) := by
  rw [afterGrant_queue]; exact Queue.update_tags _ _ _ fun _ => rfl

@[simp] theorem afterGrant_credits (r : Record) (s : State) :
    (afterGrant r s).queue.credits = s.queue.credits := by
  rw [afterGrant_queue]; rfl

@[simp] theorem afterGrant_unsent (r : Record) (s : State) :
    (afterGrant r s).queue.unsent = s.queue.unsent := by
  rw [afterGrant_queue]; rfl

/-! ## The grant decision -/

@[simp] theorem grant_lines (s : State) : (grant s).lines = s.lines := by
  unfold grant
  generalize s.buffer.fifo.length = n
  induction n generalizing s with
  | zero => rfl
  | succ n ih =>
    simp only [grantLoop]
    repeat' split
    all_goals first | rfl | simp [ih]
@[simp] theorem grant_link (s : State) : (grant s).link = s.link := by
  unfold grant
  generalize s.buffer.fifo.length = n
  induction n generalizing s with
  | zero => rfl
  | succ n ih =>
    simp only [grantLoop]
    repeat' split
    all_goals first | rfl | simp [ih]
@[simp] theorem grant_tables (s : State) : (grant s).tables = s.tables := by
  unfold grant
  generalize s.buffer.fifo.length = n
  induction n generalizing s with
  | zero => rfl
  | succ n ih =>
    simp only [grantLoop]
    repeat' split
    all_goals first | rfl | simp [ih]
@[simp] theorem grant_codec (s : State) : (grant s).codec = s.codec := by
  unfold grant
  generalize s.buffer.fifo.length = n
  induction n generalizing s with
  | zero => rfl
  | succ n ih =>
    simp only [grantLoop]
    repeat' split
    all_goals first | rfl | simp [ih]
@[simp] theorem grant_spindle (s : State) : (grant s).spindle = s.spindle := by
  unfold grant
  generalize s.buffer.fifo.length = n
  induction n generalizing s with
  | zero => rfl
  | succ n ih =>
    simp only [grantLoop]
    repeat' split
    all_goals first | rfl | simp [ih]
@[simp] theorem grant_pos (s : State) : (grant s).pos = s.pos := by
  unfold grant
  generalize s.buffer.fifo.length = n
  induction n generalizing s with
  | zero => rfl
  | succ n ih =>
    simp only [grantLoop]
    repeat' split
    all_goals first | rfl | simp [ih]
@[simp] theorem grant_pins (s : State) : (grant s).pins = s.pins := by
  unfold grant
  generalize s.buffer.fifo.length = n
  induction n generalizing s with
  | zero => rfl
  | succ n ih =>
    simp only [grantLoop]
    repeat' split
    all_goals first | rfl | simp [ih]
@[simp] theorem grant_pending (s : State) : (grant s).pending = s.pending := by
  unfold grant
  generalize s.buffer.fifo.length = n
  induction n generalizing s with
  | zero => rfl
  | succ n ih =>
    simp only [grantLoop]
    repeat' split
    all_goals first | rfl | simp [ih]
@[simp] theorem grant_engine (s : State) : (grant s).engine = s.engine := by
  unfold grant
  generalize s.buffer.fifo.length = n
  induction n generalizing s with
  | zero => rfl
  | succ n ih =>
    simp only [grantLoop]
    repeat' split
    all_goals first | rfl | simp [ih]
@[simp] theorem grant_credits (s : State) : (grant s).queue.credits = s.queue.credits := by
  unfold grant
  generalize s.buffer.fifo.length = n
  induction n generalizing s with
  | zero => rfl
  | succ n ih =>
    simp only [grantLoop]
    repeat' split
    all_goals first | rfl | simp [ih]
@[simp] theorem grant_unsent (s : State) : (grant s).queue.unsent = s.queue.unsent := by
  unfold grant
  generalize s.buffer.fifo.length = n
  induction n generalizing s with
  | zero => rfl
  | succ n ih =>
    simp only [grantLoop]
    repeat' split
    all_goals first | rfl | simp [ih]
@[simp] theorem grant_tags (s : State) :
    (grant s).queue.records.map (·.tag) = s.queue.records.map (·.tag) := by
  unfold grant
  generalize s.buffer.fifo.length = n
  induction n generalizing s with
  | zero => rfl
  | succ n ih =>
    simp only [grantLoop]
    repeat' split
    all_goals first | rfl | simp [ih]

/-! ## DONE -/

@[simp] theorem produceDone_lines (tag : Tag) (report : DoneReport) (s : State) :
    (produceDone tag report s).lines = s.lines := by
  simp [produceDone]
@[simp] theorem produceDone_link (tag : Tag) (report : DoneReport) (s : State) :
    (produceDone tag report s).link = s.link := by
  simp [produceDone]
@[simp] theorem produceDone_tables (tag : Tag) (report : DoneReport) (s : State) :
    (produceDone tag report s).tables = s.tables := by
  simp [produceDone]
@[simp] theorem produceDone_codec (tag : Tag) (report : DoneReport) (s : State) :
    (produceDone tag report s).codec = s.codec := by
  simp [produceDone]
@[simp] theorem produceDone_spindle (tag : Tag) (report : DoneReport) (s : State) :
    (produceDone tag report s).spindle = s.spindle := by
  simp [produceDone]
@[simp] theorem produceDone_pos (tag : Tag) (report : DoneReport) (s : State) :
    (produceDone tag report s).pos = s.pos := by
  simp [produceDone]
@[simp] theorem produceDone_pins (tag : Tag) (report : DoneReport) (s : State) :
    (produceDone tag report s).pins = s.pins := by
  simp [produceDone]
@[simp] theorem produceDone_pending (tag : Tag) (report : DoneReport) (s : State) :
    (produceDone tag report s).pending = s.pending := by
  simp [produceDone]

/-- The engine is IDLE after the DONE of its own request, and left otherwise (05 R89 effect 5). -/
@[simp] theorem produceDone_engine (tag : Tag) (report : DoneReport) (s : State) :
    (produceDone tag report s).engine = s.engine.dropOp tag := by
  simp [produceDone]

/-- The tag leaves the table (05 R89 effect 1). -/
@[simp] theorem produceDone_tags (tag : Tag) (report : DoneReport) (s : State) :
    (produceDone tag report s).queue.records.map (·.tag) = (s.queue.remove tag).records.map (·.tag) := by
  simp [produceDone, Queue.complete]

/-- The credit comes back (05 R89 effect 2). -/
@[simp] theorem produceDone_credits (tag : Tag) (report : DoneReport) (s : State) :
    (produceDone tag report s).queue.credits = s.queue.credits + 1 := by
  simp [produceDone, Queue.complete]

/-- The DONE counts as unsent (05 R89 effect 3). -/
@[simp] theorem produceDone_unsent (tag : Tag) (report : DoneReport) (s : State) :
    (produceDone tag report s).queue.unsent = s.queue.unsent ++ [tag] := by
  simp [produceDone, Queue.complete]

end Sys2Proof.Machine
end

