-- ==== Sys2Proof/Laws/Engine.lean ====
section
/-!
SUPPORT. What the codec's, the spindle's and the positioner's shared operations leave alone, so that a proof about the
media engine never unfolds them (01 R10; 07 R125 to R131; 08 R141 to R148; 03 R52).
-/

set_option Elab.async false

namespace Sys2Proof.Machine

/-! ## codecIdle -/

@[simp] theorem State.codecIdle_lines (s : State) : (s.codecIdle).lines = s.lines := rfl
@[simp] theorem State.codecIdle_link (s : State) : (s.codecIdle).link = s.link := rfl
@[simp] theorem State.codecIdle_arb (s : State) : (s.codecIdle).arb = s.arb := rfl
@[simp] theorem State.codecIdle_queue (s : State) : (s.codecIdle).queue = s.queue := rfl
@[simp] theorem State.codecIdle_buffer (s : State) : (s.codecIdle).buffer = s.buffer := rfl
@[simp] theorem State.codecIdle_tables (s : State) : (s.codecIdle).tables = s.tables := rfl
@[simp] theorem State.codecIdle_engine (s : State) : (s.codecIdle).engine = s.engine := rfl
@[simp] theorem State.codecIdle_spindle (s : State) : (s.codecIdle).spindle = s.spindle := rfl
@[simp] theorem State.codecIdle_pos (s : State) : (s.codecIdle).pos = s.pos := rfl
@[simp] theorem State.codecIdle_events (s : State) : (s.codecIdle).events = s.events := rfl
@[simp] theorem State.codecIdle_pins (s : State) : (s.codecIdle).pins = s.pins := rfl
@[simp] theorem State.codecIdle_pending (s : State) : (s.codecIdle).pending = s.pending := rfl

/-! ## codecArm -/

@[simp] theorem codecArm_lines (target : SectorId) (action : Action) (s : State) : (codecArm target action s).lines = s.lines := by
  unfold codecArm; split <;> rfl
@[simp] theorem codecArm_link (target : SectorId) (action : Action) (s : State) : (codecArm target action s).link = s.link := by
  unfold codecArm; split <;> rfl
@[simp] theorem codecArm_arb (target : SectorId) (action : Action) (s : State) : (codecArm target action s).arb = s.arb := by
  unfold codecArm; split <;> rfl
@[simp] theorem codecArm_queue (target : SectorId) (action : Action) (s : State) : (codecArm target action s).queue = s.queue := by
  unfold codecArm; split <;> rfl
@[simp] theorem codecArm_buffer (target : SectorId) (action : Action) (s : State) : (codecArm target action s).buffer = s.buffer := by
  unfold codecArm; split <;> rfl
@[simp] theorem codecArm_tables (target : SectorId) (action : Action) (s : State) : (codecArm target action s).tables = s.tables := by
  unfold codecArm; split <;> rfl
@[simp] theorem codecArm_engine (target : SectorId) (action : Action) (s : State) : (codecArm target action s).engine = s.engine := by
  unfold codecArm; split <;> rfl
@[simp] theorem codecArm_spindle (target : SectorId) (action : Action) (s : State) : (codecArm target action s).spindle = s.spindle := by
  unfold codecArm; split <;> rfl
@[simp] theorem codecArm_pos (target : SectorId) (action : Action) (s : State) : (codecArm target action s).pos = s.pos := by
  unfold codecArm; split <;> rfl
@[simp] theorem codecArm_events (target : SectorId) (action : Action) (s : State) : (codecArm target action s).events = s.events := by
  unfold codecArm; split <;> rfl
@[simp] theorem codecArm_pins (target : SectorId) (action : Action) (s : State) : (codecArm target action s).pins = s.pins := by
  unfold codecArm; split <;> rfl
@[simp] theorem codecArm_pending (target : SectorId) (action : Action) (s : State) : (codecArm target action s).pending = s.pending := by
  unfold codecArm; split <;> rfl

/-! ## codecTrackWrite -/

@[simp] theorem codecTrackWrite_lines (c h z : Nat) (s : State) : (codecTrackWrite c h z s).lines = s.lines := by
  unfold codecTrackWrite; split <;> rfl
@[simp] theorem codecTrackWrite_link (c h z : Nat) (s : State) : (codecTrackWrite c h z s).link = s.link := by
  unfold codecTrackWrite; split <;> rfl
@[simp] theorem codecTrackWrite_arb (c h z : Nat) (s : State) : (codecTrackWrite c h z s).arb = s.arb := by
  unfold codecTrackWrite; split <;> rfl
@[simp] theorem codecTrackWrite_queue (c h z : Nat) (s : State) : (codecTrackWrite c h z s).queue = s.queue := by
  unfold codecTrackWrite; split <;> rfl
@[simp] theorem codecTrackWrite_buffer (c h z : Nat) (s : State) : (codecTrackWrite c h z s).buffer = s.buffer := by
  unfold codecTrackWrite; split <;> rfl
@[simp] theorem codecTrackWrite_tables (c h z : Nat) (s : State) : (codecTrackWrite c h z s).tables = s.tables := by
  unfold codecTrackWrite; split <;> rfl
@[simp] theorem codecTrackWrite_engine (c h z : Nat) (s : State) : (codecTrackWrite c h z s).engine = s.engine := by
  unfold codecTrackWrite; split <;> rfl
@[simp] theorem codecTrackWrite_spindle (c h z : Nat) (s : State) : (codecTrackWrite c h z s).spindle = s.spindle := by
  unfold codecTrackWrite; split <;> rfl
@[simp] theorem codecTrackWrite_pos (c h z : Nat) (s : State) : (codecTrackWrite c h z s).pos = s.pos := by
  unfold codecTrackWrite; split <;> rfl
@[simp] theorem codecTrackWrite_events (c h z : Nat) (s : State) : (codecTrackWrite c h z s).events = s.events := by
  unfold codecTrackWrite; split <;> rfl
@[simp] theorem codecTrackWrite_pins (c h z : Nat) (s : State) : (codecTrackWrite c h z s).pins = s.pins := by
  unfold codecTrackWrite; split <;> rfl
@[simp] theorem codecTrackWrite_pending (c h z : Nat) (s : State) : (codecTrackWrite c h z s).pending = s.pending := by
  unfold codecTrackWrite; split <;> rfl

/-! ## codecStop -/

@[simp] theorem codecStop_lines (s : State) : (codecStop s).lines = s.lines := by
  unfold codecStop; split <;> rfl
@[simp] theorem codecStop_link (s : State) : (codecStop s).link = s.link := by
  unfold codecStop; split <;> rfl
@[simp] theorem codecStop_arb (s : State) : (codecStop s).arb = s.arb := by
  unfold codecStop; split <;> rfl
@[simp] theorem codecStop_queue (s : State) : (codecStop s).queue = s.queue := by
  unfold codecStop; split <;> rfl
@[simp] theorem codecStop_buffer (s : State) : (codecStop s).buffer = s.buffer := by
  unfold codecStop; split <;> rfl
@[simp] theorem codecStop_tables (s : State) : (codecStop s).tables = s.tables := by
  unfold codecStop; split <;> rfl
@[simp] theorem codecStop_engine (s : State) : (codecStop s).engine = s.engine := by
  unfold codecStop; split <;> rfl
@[simp] theorem codecStop_spindle (s : State) : (codecStop s).spindle = s.spindle := by
  unfold codecStop; split <;> rfl
@[simp] theorem codecStop_pos (s : State) : (codecStop s).pos = s.pos := by
  unfold codecStop; split <;> rfl
@[simp] theorem codecStop_events (s : State) : (codecStop s).events = s.events := by
  unfold codecStop; split <;> rfl
@[simp] theorem codecStop_pins (s : State) : (codecStop s).pins = s.pins := by
  unfold codecStop; split <;> rfl
@[simp] theorem codecStop_pending (s : State) : (codecStop s).pending = s.pending := by
  unfold codecStop; split <;> rfl

/-! ## requestSpeed -/

@[simp] theorem requestSpeed_lines (rpm zone : Nat) (s : State) : (requestSpeed rpm zone s).lines = s.lines := rfl
@[simp] theorem requestSpeed_link (rpm zone : Nat) (s : State) : (requestSpeed rpm zone s).link = s.link := rfl
@[simp] theorem requestSpeed_arb (rpm zone : Nat) (s : State) : (requestSpeed rpm zone s).arb = s.arb := rfl
@[simp] theorem requestSpeed_queue (rpm zone : Nat) (s : State) : (requestSpeed rpm zone s).queue = s.queue := rfl
@[simp] theorem requestSpeed_buffer (rpm zone : Nat) (s : State) : (requestSpeed rpm zone s).buffer = s.buffer := rfl
@[simp] theorem requestSpeed_tables (rpm zone : Nat) (s : State) : (requestSpeed rpm zone s).tables = s.tables := rfl
@[simp] theorem requestSpeed_engine (rpm zone : Nat) (s : State) : (requestSpeed rpm zone s).engine = s.engine := rfl
@[simp] theorem requestSpeed_codec (rpm zone : Nat) (s : State) : (requestSpeed rpm zone s).codec = s.codec := rfl
@[simp] theorem requestSpeed_pos (rpm zone : Nat) (s : State) : (requestSpeed rpm zone s).pos = s.pos := rfl
@[simp] theorem requestSpeed_events (rpm zone : Nat) (s : State) : (requestSpeed rpm zone s).events = s.events := rfl
@[simp] theorem requestSpeed_pins (rpm zone : Nat) (s : State) : (requestSpeed rpm zone s).pins = s.pins := rfl
@[simp] theorem requestSpeed_pending (rpm zone : Nat) (s : State) : (requestSpeed rpm zone s).pending = s.pending := rfl

/-! ## requestStop -/

@[simp] theorem requestStop_lines (s : State) : (requestStop s).lines = s.lines := rfl
@[simp] theorem requestStop_link (s : State) : (requestStop s).link = s.link := rfl
@[simp] theorem requestStop_arb (s : State) : (requestStop s).arb = s.arb := rfl
@[simp] theorem requestStop_queue (s : State) : (requestStop s).queue = s.queue := rfl
@[simp] theorem requestStop_buffer (s : State) : (requestStop s).buffer = s.buffer := rfl
@[simp] theorem requestStop_tables (s : State) : (requestStop s).tables = s.tables := rfl
@[simp] theorem requestStop_engine (s : State) : (requestStop s).engine = s.engine := rfl
@[simp] theorem requestStop_codec (s : State) : (requestStop s).codec = s.codec := rfl
@[simp] theorem requestStop_pos (s : State) : (requestStop s).pos = s.pos := rfl
@[simp] theorem requestStop_events (s : State) : (requestStop s).events = s.events := rfl
@[simp] theorem requestStop_pins (s : State) : (requestStop s).pins = s.pins := rfl
@[simp] theorem requestStop_pending (s : State) : (requestStop s).pending = s.pending := rfl

/-! ## takeSeek -/

@[simp] theorem takeSeek_lines (c : Nat) (s : State) : ((takeSeek c s).1).lines = s.lines := by
  unfold takeSeek; split
  · split <;> rfl
  all_goals rfl
@[simp] theorem takeSeek_link (c : Nat) (s : State) : ((takeSeek c s).1).link = s.link := by
  unfold takeSeek; split
  · split <;> rfl
  all_goals rfl
@[simp] theorem takeSeek_arb (c : Nat) (s : State) : ((takeSeek c s).1).arb = s.arb := by
  unfold takeSeek; split
  · split <;> rfl
  all_goals rfl
@[simp] theorem takeSeek_queue (c : Nat) (s : State) : ((takeSeek c s).1).queue = s.queue := by
  unfold takeSeek; split
  · split <;> rfl
  all_goals rfl
@[simp] theorem takeSeek_buffer (c : Nat) (s : State) : ((takeSeek c s).1).buffer = s.buffer := by
  unfold takeSeek; split
  · split <;> rfl
  all_goals rfl
@[simp] theorem takeSeek_tables (c : Nat) (s : State) : ((takeSeek c s).1).tables = s.tables := by
  unfold takeSeek; split
  · split <;> rfl
  all_goals rfl
@[simp] theorem takeSeek_engine (c : Nat) (s : State) : ((takeSeek c s).1).engine = s.engine := by
  unfold takeSeek; split
  · split <;> rfl
  all_goals rfl
@[simp] theorem takeSeek_codec (c : Nat) (s : State) : ((takeSeek c s).1).codec = s.codec := by
  unfold takeSeek; split
  · split <;> rfl
  all_goals rfl
@[simp] theorem takeSeek_spindle (c : Nat) (s : State) : ((takeSeek c s).1).spindle = s.spindle := by
  unfold takeSeek; split
  · split <;> rfl
  all_goals rfl
@[simp] theorem takeSeek_events (c : Nat) (s : State) : ((takeSeek c s).1).events = s.events := by
  unfold takeSeek; split
  · split <;> rfl
  all_goals rfl
@[simp] theorem takeSeek_pins (c : Nat) (s : State) : ((takeSeek c s).1).pins = s.pins := by
  unfold takeSeek; split
  · split <;> rfl
  all_goals rfl
@[simp] theorem takeSeek_pending (c : Nat) (s : State) : ((takeSeek c s).1).pending = s.pending := by
  unfold takeSeek; split
  · split <;> rfl
  all_goals rfl

/-! ## takeRecal -/

@[simp] theorem takeRecal_lines (s : State) : (takeRecal s).lines = s.lines := by
  unfold takeRecal; split <;> rfl
@[simp] theorem takeRecal_link (s : State) : (takeRecal s).link = s.link := by
  unfold takeRecal; split <;> rfl
@[simp] theorem takeRecal_arb (s : State) : (takeRecal s).arb = s.arb := by
  unfold takeRecal; split <;> rfl
@[simp] theorem takeRecal_queue (s : State) : (takeRecal s).queue = s.queue := by
  unfold takeRecal; split <;> rfl
@[simp] theorem takeRecal_buffer (s : State) : (takeRecal s).buffer = s.buffer := by
  unfold takeRecal; split <;> rfl
@[simp] theorem takeRecal_tables (s : State) : (takeRecal s).tables = s.tables := by
  unfold takeRecal; split <;> rfl
@[simp] theorem takeRecal_engine (s : State) : (takeRecal s).engine = s.engine := by
  unfold takeRecal; split <;> rfl
@[simp] theorem takeRecal_codec (s : State) : (takeRecal s).codec = s.codec := by
  unfold takeRecal; split <;> rfl
@[simp] theorem takeRecal_spindle (s : State) : (takeRecal s).spindle = s.spindle := by
  unfold takeRecal; split <;> rfl
@[simp] theorem takeRecal_events (s : State) : (takeRecal s).events = s.events := by
  unfold takeRecal; split <;> rfl
@[simp] theorem takeRecal_pins (s : State) : (takeRecal s).pins = s.pins := by
  unfold takeRecal; split <;> rfl
@[simp] theorem takeRecal_pending (s : State) : (takeRecal s).pending = s.pending := by
  unfold takeRecal; split <;> rfl

/-! ## askPosition -/

@[simp] theorem askPosition_lines (c : Nat) (s : State) : ((askPosition c s).1).lines = s.lines := by
  unfold askPosition; split <;> simp
@[simp] theorem askPosition_link (c : Nat) (s : State) : ((askPosition c s).1).link = s.link := by
  unfold askPosition; split <;> simp
@[simp] theorem askPosition_arb (c : Nat) (s : State) : ((askPosition c s).1).arb = s.arb := by
  unfold askPosition; split <;> simp
@[simp] theorem askPosition_queue (c : Nat) (s : State) : ((askPosition c s).1).queue = s.queue := by
  unfold askPosition; split <;> simp
@[simp] theorem askPosition_buffer (c : Nat) (s : State) : ((askPosition c s).1).buffer = s.buffer := by
  unfold askPosition; split <;> simp
@[simp] theorem askPosition_tables (c : Nat) (s : State) : ((askPosition c s).1).tables = s.tables := by
  unfold askPosition; split <;> simp
@[simp] theorem askPosition_engine (c : Nat) (s : State) : ((askPosition c s).1).engine = s.engine := by
  unfold askPosition; split <;> simp
@[simp] theorem askPosition_codec (c : Nat) (s : State) : ((askPosition c s).1).codec = s.codec := by
  unfold askPosition; split <;> simp
@[simp] theorem askPosition_spindle (c : Nat) (s : State) : ((askPosition c s).1).spindle = s.spindle := by
  unfold askPosition; split <;> simp
@[simp] theorem askPosition_events (c : Nat) (s : State) : ((askPosition c s).1).events = s.events := by
  unfold askPosition; split <;> simp
@[simp] theorem askPosition_pins (c : Nat) (s : State) : ((askPosition c s).1).pins = s.pins := by
  unfold askPosition; split <;> simp
@[simp] theorem askPosition_pending (c : Nat) (s : State) : ((askPosition c s).1).pending = s.pending := by
  unfold askPosition; split <;> simp

/-! ## finishMovement -/

@[simp] theorem finishMovement_lines (r : PosReport) (s : State) : ((finishMovement r s).1).lines = s.lines := by
  unfold finishMovement; split <;> simp
@[simp] theorem finishMovement_link (r : PosReport) (s : State) : ((finishMovement r s).1).link = s.link := by
  unfold finishMovement; split <;> simp
@[simp] theorem finishMovement_arb (r : PosReport) (s : State) : ((finishMovement r s).1).arb = s.arb := by
  unfold finishMovement; split <;> simp
@[simp] theorem finishMovement_queue (r : PosReport) (s : State) : ((finishMovement r s).1).queue = s.queue := by
  unfold finishMovement; split <;> simp
@[simp] theorem finishMovement_buffer (r : PosReport) (s : State) : ((finishMovement r s).1).buffer = s.buffer := by
  unfold finishMovement; split <;> simp
@[simp] theorem finishMovement_tables (r : PosReport) (s : State) : ((finishMovement r s).1).tables = s.tables := by
  unfold finishMovement; split <;> simp
@[simp] theorem finishMovement_engine (r : PosReport) (s : State) : ((finishMovement r s).1).engine = s.engine := by
  unfold finishMovement; split <;> simp
@[simp] theorem finishMovement_codec (r : PosReport) (s : State) : ((finishMovement r s).1).codec = s.codec := by
  unfold finishMovement; split <;> simp
@[simp] theorem finishMovement_spindle (r : PosReport) (s : State) : ((finishMovement r s).1).spindle = s.spindle := by
  unfold finishMovement; split <;> simp
@[simp] theorem finishMovement_events (r : PosReport) (s : State) : ((finishMovement r s).1).events = s.events := by
  unfold finishMovement; split <;> simp
@[simp] theorem finishMovement_pins (r : PosReport) (s : State) : ((finishMovement r s).1).pins = s.pins := by
  unfold finishMovement; split <;> simp
@[simp] theorem finishMovement_pending (r : PosReport) (s : State) : ((finishMovement r s).1).pending = s.pending := by
  unfold finishMovement; split <;> simp

/-! ## setOp -/

@[simp] theorem State.setOp_lines (s : State) (op : Op) : (s.setOp op).lines = s.lines := rfl
@[simp] theorem State.setOp_link (s : State) (op : Op) : (s.setOp op).link = s.link := rfl
@[simp] theorem State.setOp_arb (s : State) (op : Op) : (s.setOp op).arb = s.arb := rfl
@[simp] theorem State.setOp_queue (s : State) (op : Op) : (s.setOp op).queue = s.queue := rfl
@[simp] theorem State.setOp_buffer (s : State) (op : Op) : (s.setOp op).buffer = s.buffer := rfl
@[simp] theorem State.setOp_tables (s : State) (op : Op) : (s.setOp op).tables = s.tables := rfl
@[simp] theorem State.setOp_codec (s : State) (op : Op) : (s.setOp op).codec = s.codec := rfl
@[simp] theorem State.setOp_spindle (s : State) (op : Op) : (s.setOp op).spindle = s.spindle := rfl
@[simp] theorem State.setOp_pos (s : State) (op : Op) : (s.setOp op).pos = s.pos := rfl
@[simp] theorem State.setOp_events (s : State) (op : Op) : (s.setOp op).events = s.events := rfl
@[simp] theorem State.setOp_pins (s : State) (op : Op) : (s.setOp op).pins = s.pins := rfl
@[simp] theorem State.setOp_pending (s : State) (op : Op) : (s.setOp op).pending = s.pending := rfl

/-! ## armPass -/

@[simp] theorem armPass_lines (op : Op) (s : State) : (armPass op s).lines = s.lines := by
  simp [armPass]
@[simp] theorem armPass_link (op : Op) (s : State) : (armPass op s).link = s.link := by
  simp [armPass]
@[simp] theorem armPass_arb (op : Op) (s : State) : (armPass op s).arb = s.arb := by
  simp [armPass]
@[simp] theorem armPass_queue (op : Op) (s : State) : (armPass op s).queue = s.queue := by
  simp [armPass]
@[simp] theorem armPass_buffer (op : Op) (s : State) : (armPass op s).buffer = s.buffer := by
  simp [armPass]
@[simp] theorem armPass_tables (op : Op) (s : State) : (armPass op s).tables = s.tables := by
  simp [armPass]
@[simp] theorem armPass_spindle (op : Op) (s : State) : (armPass op s).spindle = s.spindle := by
  simp [armPass]
@[simp] theorem armPass_pos (op : Op) (s : State) : (armPass op s).pos = s.pos := by
  simp [armPass]
@[simp] theorem armPass_events (op : Op) (s : State) : (armPass op s).events = s.events := by
  simp [armPass]
@[simp] theorem armPass_pins (op : Op) (s : State) : (armPass op s).pins = s.pins := by
  simp [armPass]
@[simp] theorem armPass_pending (op : Op) (s : State) : (armPass op s).pending = s.pending := by
  simp [armPass]

/-! ## giveTrackWrite -/

@[simp] theorem giveTrackWrite_lines (op : Op) (s : State) : (giveTrackWrite op s).lines = s.lines := by
  simp [giveTrackWrite]
@[simp] theorem giveTrackWrite_link (op : Op) (s : State) : (giveTrackWrite op s).link = s.link := by
  simp [giveTrackWrite]
@[simp] theorem giveTrackWrite_arb (op : Op) (s : State) : (giveTrackWrite op s).arb = s.arb := by
  simp [giveTrackWrite]
@[simp] theorem giveTrackWrite_queue (op : Op) (s : State) : (giveTrackWrite op s).queue = s.queue := by
  simp [giveTrackWrite]
@[simp] theorem giveTrackWrite_buffer (op : Op) (s : State) : (giveTrackWrite op s).buffer = s.buffer := by
  simp [giveTrackWrite]
@[simp] theorem giveTrackWrite_tables (op : Op) (s : State) : (giveTrackWrite op s).tables = s.tables := by
  simp [giveTrackWrite]
@[simp] theorem giveTrackWrite_spindle (op : Op) (s : State) : (giveTrackWrite op s).spindle = s.spindle := by
  simp [giveTrackWrite]
@[simp] theorem giveTrackWrite_pos (op : Op) (s : State) : (giveTrackWrite op s).pos = s.pos := by
  simp [giveTrackWrite]
@[simp] theorem giveTrackWrite_events (op : Op) (s : State) : (giveTrackWrite op s).events = s.events := by
  simp [giveTrackWrite]
@[simp] theorem giveTrackWrite_pins (op : Op) (s : State) : (giveTrackWrite op s).pins = s.pins := by
  simp [giveTrackWrite]
@[simp] theorem giveTrackWrite_pending (op : Op) (s : State) : (giveTrackWrite op s).pending = s.pending := by
  simp [giveTrackWrite]

/-! ## suspendPass -/

@[simp] theorem suspendPass_lines (op : Op) (s : State) : (suspendPass op s).lines = s.lines := rfl
@[simp] theorem suspendPass_link (op : Op) (s : State) : (suspendPass op s).link = s.link := rfl
@[simp] theorem suspendPass_arb (op : Op) (s : State) : (suspendPass op s).arb = s.arb := rfl
@[simp] theorem suspendPass_queue (op : Op) (s : State) : (suspendPass op s).queue = s.queue := rfl
@[simp] theorem suspendPass_buffer (op : Op) (s : State) : (suspendPass op s).buffer = s.buffer := rfl
@[simp] theorem suspendPass_tables (op : Op) (s : State) : (suspendPass op s).tables = s.tables := rfl
@[simp] theorem suspendPass_codec (op : Op) (s : State) : (suspendPass op s).codec = s.codec := rfl
@[simp] theorem suspendPass_spindle (op : Op) (s : State) : (suspendPass op s).spindle = s.spindle := rfl
@[simp] theorem suspendPass_pos (op : Op) (s : State) : (suspendPass op s).pos = s.pos := rfl
@[simp] theorem suspendPass_events (op : Op) (s : State) : (suspendPass op s).events = s.events := rfl
@[simp] theorem suspendPass_pins (op : Op) (s : State) : (suspendPass op s).pins = s.pins := rfl
@[simp] theorem suspendPass_pending (op : Op) (s : State) : (suspendPass op s).pending = s.pending := rfl

/-! ## positionFaultReport -/

@[simp] theorem positionFaultReport_lines (s : State) : (positionFaultReport s).lines = s.lines := by
  unfold positionFaultReport; split <;> simp
@[simp] theorem positionFaultReport_link (s : State) : (positionFaultReport s).link = s.link := by
  unfold positionFaultReport; split <;> simp
@[simp] theorem positionFaultReport_queue (s : State) : (positionFaultReport s).queue = s.queue := by
  unfold positionFaultReport; split <;> simp
@[simp] theorem positionFaultReport_tables (s : State) : (positionFaultReport s).tables = s.tables := by
  unfold positionFaultReport; split <;> simp
@[simp] theorem positionFaultReport_engine (s : State) : (positionFaultReport s).engine = s.engine := by
  unfold positionFaultReport; split <;> simp
@[simp] theorem positionFaultReport_codec (s : State) : (positionFaultReport s).codec = s.codec := by
  unfold positionFaultReport; split <;> simp
@[simp] theorem positionFaultReport_spindle (s : State) : (positionFaultReport s).spindle = s.spindle := by
  unfold positionFaultReport; split <;> simp
@[simp] theorem positionFaultReport_pins (s : State) : (positionFaultReport s).pins = s.pins := by
  unfold positionFaultReport; split <;> simp
@[simp] theorem positionFaultReport_pending (s : State) : (positionFaultReport s).pending = s.pending := by
  unfold positionFaultReport; split <;> simp

/-! ## lockSpindle -/

@[simp] theorem lockSpindle_lines (s : State) : (lockSpindle s).lines = s.lines := by
  simp [lockSpindle]
@[simp] theorem lockSpindle_link (s : State) : (lockSpindle s).link = s.link := by
  simp [lockSpindle]
@[simp] theorem lockSpindle_queue (s : State) : (lockSpindle s).queue = s.queue := by
  simp [lockSpindle]
@[simp] theorem lockSpindle_tables (s : State) : (lockSpindle s).tables = s.tables := by
  simp [lockSpindle]
@[simp] theorem lockSpindle_engine (s : State) : (lockSpindle s).engine = s.engine := by
  simp [lockSpindle]
@[simp] theorem lockSpindle_codec (s : State) : (lockSpindle s).codec = s.codec := by
  simp [lockSpindle]
@[simp] theorem lockSpindle_pos (s : State) : (lockSpindle s).pos = s.pos := by
  simp [lockSpindle]
@[simp] theorem lockSpindle_pins (s : State) : (lockSpindle s).pins = s.pins := by
  simp [lockSpindle]
@[simp] theorem lockSpindle_pending (s : State) : (lockSpindle s).pending = s.pending := by
  simp [lockSpindle]

/-! ## loseSpindle -/

@[simp] theorem loseSpindle_lines (d : BitVec 24) (s : State) : (loseSpindle d s).lines = s.lines := by
  simp [loseSpindle]
@[simp] theorem loseSpindle_link (d : BitVec 24) (s : State) : (loseSpindle d s).link = s.link := by
  simp [loseSpindle]
@[simp] theorem loseSpindle_queue (d : BitVec 24) (s : State) : (loseSpindle d s).queue = s.queue := by
  simp [loseSpindle]
@[simp] theorem loseSpindle_tables (d : BitVec 24) (s : State) : (loseSpindle d s).tables = s.tables := by
  simp [loseSpindle]
@[simp] theorem loseSpindle_engine (d : BitVec 24) (s : State) : (loseSpindle d s).engine = s.engine := by
  simp [loseSpindle]
@[simp] theorem loseSpindle_codec (d : BitVec 24) (s : State) : (loseSpindle d s).codec = s.codec := by
  simp [loseSpindle]
@[simp] theorem loseSpindle_pos (d : BitVec 24) (s : State) : (loseSpindle d s).pos = s.pos := by
  simp [loseSpindle]
@[simp] theorem loseSpindle_pins (d : BitVec 24) (s : State) : (loseSpindle d s).pins = s.pins := by
  simp [loseSpindle]
@[simp] theorem loseSpindle_pending (d : BitVec 24) (s : State) : (loseSpindle d s).pending = s.pending := by
  simp [loseSpindle]

/-! ## faultSpindle -/

@[simp] theorem faultSpindle_lines (d : BitVec 24) (s : State) : (faultSpindle d s).lines = s.lines := by
  simp [faultSpindle]
@[simp] theorem faultSpindle_link (d : BitVec 24) (s : State) : (faultSpindle d s).link = s.link := by
  simp [faultSpindle]
@[simp] theorem faultSpindle_queue (d : BitVec 24) (s : State) : (faultSpindle d s).queue = s.queue := by
  simp [faultSpindle]
@[simp] theorem faultSpindle_tables (d : BitVec 24) (s : State) : (faultSpindle d s).tables = s.tables := by
  simp [faultSpindle]
@[simp] theorem faultSpindle_engine (d : BitVec 24) (s : State) : (faultSpindle d s).engine = s.engine := by
  simp [faultSpindle]
@[simp] theorem faultSpindle_codec (d : BitVec 24) (s : State) : (faultSpindle d s).codec = s.codec := by
  simp [faultSpindle]
@[simp] theorem faultSpindle_pos (d : BitVec 24) (s : State) : (faultSpindle d s).pos = s.pos := by
  simp [faultSpindle]
@[simp] theorem faultSpindle_pins (d : BitVec 24) (s : State) : (faultSpindle d s).pins = s.pins := by
  simp [faultSpindle]
@[simp] theorem faultSpindle_pending (d : BitVec 24) (s : State) : (faultSpindle d s).pending = s.pending := by
  simp [faultSpindle]

/-! ## restSpindle -/

@[simp] theorem restSpindle_lines (s : State) : (restSpindle s).lines = s.lines := by
  simp [restSpindle]
@[simp] theorem restSpindle_link (s : State) : (restSpindle s).link = s.link := by
  simp [restSpindle]
@[simp] theorem restSpindle_queue (s : State) : (restSpindle s).queue = s.queue := by
  simp [restSpindle]
@[simp] theorem restSpindle_tables (s : State) : (restSpindle s).tables = s.tables := by
  simp [restSpindle]
@[simp] theorem restSpindle_engine (s : State) : (restSpindle s).engine = s.engine := by
  simp [restSpindle]
@[simp] theorem restSpindle_codec (s : State) : (restSpindle s).codec = s.codec := by
  simp [restSpindle]
@[simp] theorem restSpindle_pos (s : State) : (restSpindle s).pos = s.pos := by
  simp [restSpindle]
@[simp] theorem restSpindle_pins (s : State) : (restSpindle s).pins = s.pins := by
  simp [restSpindle]
@[simp] theorem restSpindle_pending (s : State) : (restSpindle s).pending = s.pending := by
  simp [restSpindle]

/-! ## raiseGrowth -/

@[simp] theorem raiseGrowth_lines (lba zone : Nat) (s : State) : (raiseGrowth lba zone s).lines = s.lines := by
  unfold raiseGrowth; dsimp only; split <;> simp
@[simp] theorem raiseGrowth_link (lba zone : Nat) (s : State) : (raiseGrowth lba zone s).link = s.link := by
  unfold raiseGrowth; dsimp only; split <;> simp
@[simp] theorem raiseGrowth_queue (lba zone : Nat) (s : State) : (raiseGrowth lba zone s).queue = s.queue := by
  unfold raiseGrowth; dsimp only; split <;> simp
@[simp] theorem raiseGrowth_tables (lba zone : Nat) (s : State) : (raiseGrowth lba zone s).tables = s.tables := by
  unfold raiseGrowth; dsimp only; split <;> simp
@[simp] theorem raiseGrowth_engine (lba zone : Nat) (s : State) : (raiseGrowth lba zone s).engine = s.engine := by
  unfold raiseGrowth; dsimp only; split <;> simp
@[simp] theorem raiseGrowth_codec (lba zone : Nat) (s : State) : (raiseGrowth lba zone s).codec = s.codec := by
  unfold raiseGrowth; dsimp only; split <;> simp
@[simp] theorem raiseGrowth_spindle (lba zone : Nat) (s : State) : (raiseGrowth lba zone s).spindle = s.spindle := by
  unfold raiseGrowth; dsimp only; split <;> simp
@[simp] theorem raiseGrowth_pos (lba zone : Nat) (s : State) : (raiseGrowth lba zone s).pos = s.pos := by
  unfold raiseGrowth; dsimp only; split <;> simp
@[simp] theorem raiseGrowth_pins (lba zone : Nat) (s : State) : (raiseGrowth lba zone s).pins = s.pins := by
  unfold raiseGrowth; dsimp only; split <;> simp
@[simp] theorem raiseGrowth_pending (lba zone : Nat) (s : State) : (raiseGrowth lba zone s).pending = s.pending := by
  unfold raiseGrowth; dsimp only; split <;> simp

end Sys2Proof.Machine
end

