-- ==== Sys2Proof/Laws/Access.lean ====
section
/-!
SUPPORT. What the media engine's shared operations do, in the terms of the statements: ending a request, beginning a
pass, opening POSITION and SPEED, taking a block and completing one. A proof about a command of the codec, the
positioner or the spindle cites these and unfolds none of the operations (06 R87 to R97, R118).
-/

set_option Elab.async false

namespace Sys2Proof.Machine

/-! ## Selection after a command -/

theorem schedule_busy (s : State) (h : s.engine.op.isSome = true) : schedule s = s := by
  unfold schedule
  cases s.queue.records.length with
  | zero => rfl
  | succ n => simp [scheduleLoop, h]

/-- A command that finds the engine busy ends with a selection: none is made while the engine stays busy. -/
theorem afterEngine_busy (s t : State) (op : Op) (h : s.engine.op = some op) : afterEngine s t = schedule t := by
  unfold afterEngine
  cases ht : t.engine.op with
  | none => simp [h]
  | some x => simp [h, schedule_busy t (by simp [ht])]

theorem afterEngine_idle (s t : State) (h : s.engine.op = none) : afterEngine s t = t := by
  simp [afterEngine, h]

/-! ## The end of a request -/

theorem Buffer.ownedBy_isEmpty (b : Buffer) (tag : Tag) :
    (b.ownedBy tag).isEmpty = false ↔ ∃ page ∈ b.pages, page.use.owner? = some tag := by
  have h : (b.ownedBy tag).isEmpty = false ↔ ∃ p, p ∈ b.ownedBy tag := by
    cases b.ownedBy tag with
    | nil => simp
    | cons x xs => simp
  rw [h]
  simp only [Buffer.ownedBy, List.mem_filter, List.mem_range, Buffer.useOf, beq_iff_eq]
  constructor
  · rintro ⟨p, hp, hu⟩
    rw [List.getElem?_eq_getElem hp] at hu
    exact ⟨b.pages[p], List.getElem_mem hp, hu⟩
  · rintro ⟨page, hm, hu⟩
    obtain ⟨p, hp, rfl⟩ := List.mem_iff_getElem.1 hm
    exact ⟨p, hp, by simpa [List.getElem?_eq_getElem hp] using hu⟩

theorem Buffer.release_filling (b : Buffer) (tag : Tag) :
    b.release tag PageUse.isFilling = { b with pages := b.pages.map (unfilled tag) } := by
  unfold Buffer.release
  congr 1
  refine List.map_congr_left fun page _ => ?_
  cases h : page.use <;> simp [PageUse.owner?, PageUse.isFilling, unfilled, h]

theorem finish_eq (op : Op) (status : Status) (failing : Option (BitVec 32)) (s : State) :
    finish op status failing s = ended op (op.report status failing) s := by
  unfold finish ended
  cases h : op.req.isRead with
  | false => simp
  | true =>
    simp only [if_true, settlePages, Buffer.release_filling]
    have e := Buffer.ownedBy_isEmpty
      (grant (s.setBuffer { s.buffer with pages := s.buffer.pages.map (unfilled op.tag) })).buffer op.tag
    split
    · rename_i hE
      rw [if_neg fun hx => by simp [e.2 hx] at hE]
    · rename_i hE
      rw [if_pos (e.1 (by simpa using hE))]
      simp [enterDrain, State.setOp, Queue.update]

theorem endWith_eq (op : Op) (status : Status) (s : State) :
    endWith op status s = ended op ⟨status, op.blocksDone, op.retriesUsed,
      if status.namesLba then some (op.req.firstLba + op.cursor) else none, none⟩ s := finish_eq op status none s

/-- Of a request that is no READ only the tag counts at its end. -/
theorem ended_done (op : Op) (report : DoneReport) (s : State) (h : op.req.isRead = false) :
    ended op report s = produceDone op.tag report s := by
  simp [ended, h]

theorem endWith_done (op : Op) (status : Status) (s : State) (h : op.req.isRead = false) :
    endWith op status s = produceDone op.tag ⟨status, op.blocksDone, op.retriesUsed,
      if status.namesLba then some (op.req.firstLba + op.cursor) else none, none⟩ s := by
  rw [endWith_eq, ended_done _ _ _ h]

/-! ## The beginning of a pass -/

theorem passData_eq (op : Op) (s : State) : blockRef op s.buffer = passData op s := by
  unfold blockRef passData
  cases op.req <;> rfl

theorem passAction_eq (op : Op) (s : State) (h : op.purpose ≠ .trackWrite) :
    armedAction op s.buffer = some (passAction op s) := by
  unfold armedAction passAction
  cases hp : op.purpose <;> simp_all [cursorPage, passData_eq]

theorem passTarget_eq (op : Op) : armedTarget op = passTarget op := by
  unfold armedTarget passTarget
  cases op.purpose <;> rfl

theorem notBegun_eq (f : Framing) : decide (f = .off ∨ f = .waiting) = f.notBegun := by
  cases f <;> simp [Framing.notBegun]

/-- Arming begins a pass that hunts. -/
theorem armPass_eq (op : Op) (s : State) (hp : op.purpose ≠ .trackWrite) (hc : s.codec.mode = .idle) :
    armPass op s = passBegun op s := by
  unfold armPass passBegun codecArm
  rw [passAction_eq op s hp]
  simp only [State.setOp, State.setEngine_codec, hc, notBegun_eq, passTarget_eq]
  cases h : op.purpose <;> simp_all [Purpose.huntStage, passAction, passTarget, passData, cursorPage]

/-- TRACK_WRITE begins a pass of a FORMAT. -/
theorem giveTrackWrite_eq (op : Op) (s : State) (hp : op.purpose = .trackWrite) (hc : s.codec.mode = .idle) :
    giveTrackWrite op s = passBegun op s := by
  simp [giveTrackWrite, passBegun, codecTrackWrite, armedAction, State.setOp, hp, hc]

/-- The pass begins once POSITION and SPEED are closed. -/
theorem closeIfReady_eq (op : Op) (s : State) (h : op.posOpen = true ∨ op.speedOpen = true ∨ s.codec.mode = .idle) :
    closeIfReady op s = passOrWait op s := by
  unfold closeIfReady passOrWait
  by_cases ho : op.posOpen = true ∨ op.speedOpen = true
  · simp [ho, State.setOp]
  · have hc : s.codec.mode = .idle := by
      rcases h with h | h | h
      · exact absurd (Or.inl h) ho
      · exact absurd (Or.inr h) ho
      · exact h
    simp only [Bool.or_eq_true, ho, if_false]
    unfold startAccess
    cases hp : op.purpose with
    | write | trackWrite =>
      cases hw : s.pins.wprot <;> simp [hp, armPass_eq, giveTrackWrite_eq, hc, endWith_eq, Status.namesLba]
    | read | discard | compare | formatVerify => simp [armPass_eq, hc, hp]

/-! ## Opening POSITION and SPEED -/

/-- The positioner's answer to the opening of POSITION is the one `PositionAsked` names. -/
theorem askPosition_eq (s : State) (c : Nat) (pos : Positioner) (isOpen : Bool) (h : PositionAsked s c pos isOpen) :
    askPosition c s = (s.setPos pos, isOpen) := by
  cases h with
  | there h => simp [askPosition, takeSeek, h, State.setPos]
  | inward at' h hl =>
    have : ¬ at' = c := by omega
    simp [askPosition, takeSeek, h, this, Positioner.beginSeek, Positioner.stepToward, Positioner.phaseIn, hl]
  | outward at' h hl =>
    have h1 : ¬ at' = c := by omega
    have h2 : ¬ at' < c := by omega
    simp [askPosition, takeSeek, h, h1, Positioner.beginSeek, Positioner.stepToward, Positioner.phaseOut, h2]
  | unknown h => simp [askPosition, takeRecal, h, Positioner.beginRecal]
  | moving h hi =>
    cases hs : s.pos.state <;> simp_all [askPosition, takeSeek]

/-- The spindle controller's answer to a speed request is the one `SpeedAsked` names. -/
theorem askSpeed_eq (s : State) (rpm zone : Nat) (p : Spindle) (isOpen : Bool)
    (h : SpeedAsked s.tables rpm zone s.spindle p isOpen) : askSpeed rpm zone s = (s.setSpindle p, isOpen) := by
  unfold askSpeed requestSpeed Spindle.speedRequest Spindle.answersLocked
  cases h with
  | rest h => rcases h with h | h <;> simp [h, beginStart]
  | climbing h => simp [h]
  | locked h hr => simp [h, hr]
  | same h hr => rcases h with h | h <;> simp [h, hr]
  | other h hr => rcases h with h | h | h <;> simp [h, hr, beginRetarget]

/-- Opening both. -/
theorem openBoth_opens (op : Op) (s : State) : Opens s (openBoth op s) op := by
  intro pos spindle posOpen speedOpen hp hs hc
  unfold openBoth
  rw [askPosition_eq s _ pos posOpen hp]
  simp only
  rw [askSpeed_eq (s.setPos pos) _ _ spindle speedOpen (by simpa using hs)]
  exact closeIfReady_eq _ _ (by simpa using hc)

/-- The stage an operation comes from does not show once both are open. -/
theorem Opens_of_stage (s t : State) (op : Op) (x : EngineStage) (h : Opens s t { op with stage := x }) :
    Opens s t op := h

/-! ## Blocks -/

theorem BlockBegins_barred (s : State) (op : Op) (p : Purpose)
    (h : op.req.isWrite = true ∧
      ((s.tables.placement (op.req.firstLba + op.cursor)).writeLock = true ∨ s.pins.wprot = true)) :
    translateBlock p op s = produceDone op.tag ⟨.writeProtected, op.blocksDone, op.retriesUsed, none, none⟩ s := by
  obtain ⟨hw, hb⟩ := h
  unfold translateBlock
  cases hr : op.req <;> simp_all [Request.isWrite]
  rw [if_pos (by simpa [Op.lba, hr] using hb), endWith_eq, ended_done]
  · simp [Status.namesLba]
  · simp [Request.isRead]

/-- TRANSLATE of a block of a READ, VERIFY or WRITE. -/
theorem translateBlock_begins (s : State) (op : Op)
    (hr : (∃ l c f, op.req = .read l c f) ∨ (∃ l c f, op.req = .verify l c f) ∨ ∃ l c f, op.req = .write l c f) :
    BlockBegins s (translateBlock op.req.firstPurpose op s) op := by
  refine ⟨fun h => BlockBegins_barred s op _ h, fun h => ?_⟩
  unfold translateBlock
  rcases hr with ⟨l, c, f, hr⟩ | ⟨l, c, f, hr⟩ | ⟨l, c, f, hr⟩
  · cases op
    subst hr
    exact Opens_of_stage _ _ _ .translate (openBoth_opens _ s)
  · cases op
    subst hr
    exact Opens_of_stage _ _ _ .translate (openBoth_opens _ s)
  · cases op
    subst hr
    simp only
    rw [if_neg (by simpa [Request.isWrite, Op.lba] using h)]
    exact Opens_of_stage _ _ _ .translate (openBoth_opens _ s)

/-- A block is complete: the request ends, is aborted, or goes on. -/
theorem completeBlock_done (s : State) (op : Op) :
    (op.cursor + 1 < op.req.blocks → (∃ l c f, op.req = .read l c f) ∨ (∃ l c f, op.req = .verify l c f) ∨
      ∃ l c f, op.req = .write l c f) → BlockDone s (completeBlock op s) op := by
  intro hr
  unfold completeBlock
  refine ⟨fun h => ?_, fun h ha => ?_, fun h ha => ?_⟩
  · simp only [if_pos h, endWith_eq]
    unfold Op.completed
    cases op.reallocated <;> cases op.recovered <;> by_cases hf : op.failures = .none <;>
      simp [hf, Status.namesLba]
  · simp only [if_neg (Nat.not_le.2 h), ha, if_true, endWith_eq, Status.namesLba]
    simp
  · simp only [if_neg (Nat.not_le.2 h)]
    rw [if_neg (by simp [ha])]
    exact translateBlock_begins s { op with
      blocksDone := op.blocksDone + 1, recovered := op.recovered || decide (op.failures ≠ .none), chain := none
      cursor := op.cursor + 1, pass := 1, failures := .none, faultCount := 0, huntRevs := 0, placement := none }
      (hr h)

/-! ## Reallocation -/

theorem lowestFree_free (t : Tables) (zone k : Nat) (h : LowestFree t zone k) :
    lowestFree t.slots zone = some k := by
  obtain ⟨row, hr, hk, hj⟩ := h
  simp only [lowestFree, hr, Option.bind_some]
  rw [List.findIdx?_eq_some_iff_getElem]
  obtain ⟨hl, hk⟩ := List.getElem?_eq_some_iff.1 hk
  refine ⟨hl, by simp [hk], fun j hjk => ?_⟩
  have := hj j hjk
  rw [List.getElem?_eq_getElem (by omega)] at this
  simpa using this

theorem lowestFree_none (t : Tables) (zone : Nat) (h : NoneFree t zone) : lowestFree t.slots zone = none := by
  unfold lowestFree
  cases hr : t.slots[zone]? with
  | none => rfl
  | some row =>
    have := h row hr
    simp only [Option.bind_some, List.findIdx?_eq_none_iff]
    intro x hx
    simpa using fun e : x = .free => this (e ▸ hx)

/-- A chain's next trial. -/
theorem startTrial_tries (s : State) (op : Op) (chain : Chain) (k : Nat) (h : LowestFree s.tables chain.zone k) :
    OnTrial s (startTrial op chain s) op chain k := by
  unfold startTrial
  rw [lowestFree_free _ _ _ h]
  exact openBoth_opens _ s

theorem startTrial_exhausted (s : State) (op : Op) (chain : Chain) (h : NoneFree s.tables chain.zone)
    (hr : op.req.isRead = false) :
    startTrial op chain s = produceDone op.tag
      ⟨.sparesExhausted, op.blocksDone, op.retriesUsed, some (op.req.firstLba + op.cursor), none⟩ s := by
  unfold startTrial
  rw [lowestFree_none _ _ h]
  exact endWith_done { op with chain := none } .sparesExhausted s hr

theorem raiseGrowth_eq (lba zone : Nat) (s : State) : raiseGrowth lba zone s = grownEvents lba zone s := by
  unfold raiseGrowth grownEvents freeCount detailNat
  rfl

/-! ## The spindle's reports -/

theorem State.setEngine_self (s : State) {o : Option Op} (h : s.engine.op = o) :
    s.setEngine { s.engine with op := o } = s := by
  subst h
  rfl

theorem revolutionReport_eq (s : State) : revolutionReport s = revolutionTold s := by
  unfold revolutionReport revolutionTold Engine.working
  cases ho : s.engine.op with
  | none => exact (State.setEngine_self s ho).symm
  | some op =>
    by_cases hd : op.stage = .drain
    · cases s.codec.mode <;> simpa [hd] using (State.setEngine_self s ho).symm
    · cases s.codec.mode with
      | hunt => by_cases hf : op.huntFresh = true <;> simp [hd, hf, State.setOp]
      | idle | dataRead | dataWrite | trackWrite => simpa [hd] using (State.setEngine_self s ho).symm

theorem Engine.working_some (e : Engine) (op : Op) (h : e.op = some op) (hd : op.stage ≠ .drain) :
    e.working = some op := by
  simp [Engine.working, h, hd]

theorem Engine.working_drain (e : Engine) (op : Op) (h : e.op = some op) (hd : op.stage = .drain) :
    e.working = none := by
  simp [Engine.working, h, hd]

theorem lockedReport_told (s : State) : LockTold s (lockedReport s) := by
  refine ⟨fun h => by simp [lockedReport, Engine.working, h], fun op ho => ?_⟩
  refine ⟨fun h => ?_, fun hr => ⟨fun hq hs => ?_, fun hq => ⟨fun hs hsp hc => ?_, fun hs ha hp hsp hc => ?_⟩⟩⟩
  · unfold lockedReport
    by_cases hd : op.stage = .drain
    · rw [Engine.working_drain _ op ho hd]
    · rw [Engine.working_some _ op ho hd]
      refine if_neg ?_
      rintro ⟨h1, h2⟩
      rcases h with h | h | h
      · apply h
        unfold Op.awaitsSpeed at h1
        cases hq : op.req <;> simp [hq] at h1 <;> tauto
      · exact hd h
      · exact h h2
  · have hw : op.awaitsSpeed = true := by simp [Op.awaitsSpeed, hq, hs]
    unfold lockedReport
    rw [Engine.working_some _ op ho (by simp [hs])]
    simp only [hw, hr, and_self, if_true, hs]
    exact endWith_done op .ok s (by simp [hq, Request.isRead])
  · have hw : op.awaitsSpeed = true := by
      unfold Op.awaitsSpeed
      cases hx : op.req <;> simp_all
    unfold lockedReport
    rw [Engine.working_some _ op ho (by simp [hs])]
    simp only [hw, hr, and_self, if_true, hs]
    exact closeIfReady_eq _ s (hc.imp_right Or.inr)
  · have hw : op.awaitsSpeed = true := by
      unfold Op.awaitsSpeed
      cases hx : op.req <;> simp_all
    have e : lockedReport s = resumePass op s := by
      unfold lockedReport
      rw [Engine.working_some _ op ho (by rcases hs with hs | hs | hs | hs <;> simp [hs])]
      rcases hs with hs | hs | hs | hs <;> simp only [hw, hr, and_self, if_true, hs]
    rw [e]
    unfold resumePass
    refine ⟨fun h => ?_, fun h => ?_⟩
    · have : startAccess { op with awaitingRelock := false } s = passOrWait { op with awaitingRelock := false } s := by
        rw [← closeIfReady_eq _ s (Or.inr (Or.inr hc))]
        simp [closeIfReady, hp, hsp]
      cases hx : op.purpose <;> simp_all
    · simp only [h]
      exact giveTrackWrite_eq _ s rfl hc

/-- The loss of lock as the codec and the engine see it. -/
theorem lockLost_told (s : State) : LossTold s (lockLostReport (codecLockLost s)) := by
  refine ⟨fun ho => ?_, fun op ho => ⟨fun hc hs => ?_, fun hc hs => ?_, fun hc hd => ?_, fun hc hd => ?_⟩⟩
  · unfold codecLockLost Codec.lockLossReport
    cases hm : s.codec.mode <;>
      simp [codecReport, lockLostReport, Engine.working, ho, State.codecIdle, Codec.toIdle]
  · simp only [codecLockLost, Codec.lockLossReport, hc]
    unfold lockLostReport
    by_cases hd : op.stage = .drain
    · rw [Engine.working_drain _ op ho hd]
    · rw [Engine.working_some _ op ho hd]; simp [hs]
  · simp only [codecLockLost, Codec.lockLossReport, hc]
    unfold lockLostReport
    rw [Engine.working_some _ op ho (by simp [hs])]
    simp [hs, State.setOp]
  · have hw : s.engine.working = none := Engine.working_drain _ op ho hd
    unfold codecLockLost Codec.lockLossReport
    cases hm : s.codec.mode with
    | idle => exact absurd hm hc
    | hunt | dataRead | dataWrite | trackWrite =>
      simp [codecReport, lockLostReport, hw, State.codecIdle, Codec.toIdle]
  · have e : codecLockLost s = suspendPass op s.codecIdle := by
      have hw : s.engine.working = some op := Engine.working_some _ op ho hd
      unfold codecLockLost Codec.lockLossReport
      cases hm : s.codec.mode with
      | idle => exact absurd hm hc
      | hunt | dataRead => simp [codecReport, hw]
      | dataWrite | trackWrite => cases s.codec.wgate <;> simp [codecReport, hw, gateStopped]
    rw [e]
    unfold lockLostReport
    rw [Engine.working_some (suspendPass op s.codecIdle).engine _ rfl (by cases op.purpose <;> simp [Purpose.huntStage])]
    cases hx : op.purpose <;> simp [hx, Purpose.huntStage, suspendPass, State.setOp, State.codecIdle, Codec.toIdle]

/-- A loss of lock ends no operation. -/
theorem lockLost_busy (s : State) (op : Op) (ho : s.engine.op = some op) :
    (lockLostReport (codecLockLost s)).engine.op.isSome = true := by
  have h := (lockLost_told s).2 op ho
  by_cases hc : s.codec.mode = .idle
  · by_cases hs : op.stage = .positionSpeed
    · rw [h.2.1 hc hs]; rfl
    · rw [h.1 hc hs, ho]; rfl
  · by_cases hd : op.stage = .drain
    · rw [h.2.2.1 hc hd]; simp [ho]
    · rw [h.2.2.2 hc hd]; rfl

/-! ## A pulse after the codec has taken it -/

theorem codecPulse_noTrack (ns : Nat) (s : State) (h : s.codec.mode.noTrack = true) : codecPulse ns s = s := by
  unfold codecPulse
  cases hm : s.codec.mode <;> simp_all [CodecMode.noTrack]

/-- The detail of SPIN_LOST is the rounded deviation, clamped. -/
theorem lostDetail_eq (e : Int) : lostDetail e = BitVec.ofInt 24
    (if 0 ≤ e then (min 127 ((e.natAbs + 300000) / 600000) : Nat)
      else -(min 128 ((e.natAbs + 300000) / 600000) : Nat)) := by
  unfold lostDetail roundDev
  congr 1
  split <;> omega

theorem Spindle.count_locked (e : Int) (p : Spindle) (h : p.state = .locked) :
    p.count e = { p with outBand := if outsideLoss e then min 2 (p.outBand + 1) else 0 } := by
  unfold Spindle.count
  rw [h]

theorem Spindle.count_seeks (e : Int) (p : Spindle) (h : p.state.seeksLock = true) :
    p.count e = { p with inBand := if withinLock e then min 4 (p.inBand + 1) else 0 } := by
  unfold Spindle.count
  cases hs : p.state <;> first | rfl | simp [hs, SpinState.seeksLock] at h

theorem closeRevolution_eq (m : Nat) (s : State) (p : Spindle) (hp : s.spindle.closeRev m = p) :
    closeRevolution m s = revolutionTold (
      if p.state.seeksLock = true ∧ p.inBand = 4 then becomeLocked (s.setSpindle p)
      else if p.state = .locked ∧ p.outBand = 2 then becomeLost (lostDetail (deviation m p.rpm)) (s.setSpindle p)
      else s.setSpindle p) := by
  subst hp
  exact revolutionReport_eq _

/-- A revolution closed in LOCKED. -/
theorem closeRevolution_locked (m : Nat) (s : State) (e : Int) (he : deviation m s.spindle.rpm = e)
    (h : s.spindle.state = .locked) :
    let u := s.setSpindle { s.spindle with
      lastPeriod := m, level := controlLaw s.spindle.level e
      outBand := if outsideLoss e then min 2 (s.spindle.outBand + 1) else 0 }
    closeRevolution m s = revolutionTold (if u.spindle.outBand = 2 then becomeLost (lostDetail e) u else u) := by
  subst he
  rw [closeRevolution_eq m s _ (Spindle.count_locked _ _ h)]
  simp only [h, SpinState.seeksLock, Bool.false_eq_true, false_and, true_and, if_false]
  rfl

/-- A revolution closed in STARTING, RETARGETING or LOST. -/
theorem closeRevolution_seeks (m : Nat) (s : State) (e : Int) (he : deviation m s.spindle.rpm = e)
    (h : s.spindle.state.seeksLock = true) :
    let u := s.setSpindle { s.spindle with
      lastPeriod := m, level := controlLaw s.spindle.level e
      inBand := if withinLock e then min 4 (s.spindle.inBand + 1) else 0 }
    closeRevolution m s = revolutionTold (if u.spindle.inBand = 4 then becomeLocked u else u) := by
  subst he
  have hl : s.spindle.state ≠ .locked := fun hl => by simp [hl, SpinState.seeksLock] at h
  rw [closeRevolution_eq m s _ (Spindle.count_seeks _ _ h)]
  simp only [h, hl, true_and, false_and, if_false]
  rfl

/-- What a closed revolution does to a spindle that turns, and what the codec and the engine do at it. -/
theorem closeRevolution_closed (m : Nat) (s : State) (h1 : s.spindle.state ≠ .stopped)
    (h2 : s.spindle.state ≠ .stopping) : RevolutionClosed m s (closeRevolution m s) := by
  have hd : (m : Int) * ((s.spindle.target.map (·.rpm)).getD 0 : Nat) - 60000000 = deviation m s.spindle.rpm := rfl
  unfold RevolutionClosed
  rw [hd]
  generalize he : deviation m s.spindle.rpm = e
  refine ⟨fun hs => ?_, fun hs => ?_⟩
  · rw [closeRevolution_locked m s e he hs]
    refine ⟨fun h => ?_, fun h ho => ?_, fun h ho => ?_⟩
    · simp only [outsideLoss, Nat.not_lt.mpr h, decide_false]; rfl
    · simp only [outsideLoss, h, ho, decide_true]; rfl
    · rw [show (if outsideLoss e then min 2 (s.spindle.outBand + 1) else 0) = 2 by simp [outsideLoss, h]; omega,
        lostDetail_eq]
      exact ⟨_, lockLost_told _, rfl⟩
  · rw [closeRevolution_seeks m s e he (by cases hx : s.spindle.state <;> simp_all [SpinState.seeksLock])]
    refine ⟨fun h => ?_, fun h ho => ?_, fun h ho => ?_⟩
    · simp only [withinLock, Nat.not_le.mpr h, decide_false]; rfl
    · rw [show (if withinLock e then min 4 (s.spindle.inBand + 1) else 0) = s.spindle.inBand + 1 by
        simp [withinLock, h]; omega]
      exact congrArg revolutionTold (if_neg (show s.spindle.inBand + 1 ≠ 4 by omega))
    · rw [show (if withinLock e then min 4 (s.spindle.inBand + 1) else 0) = 4 by simp [withinLock, h]; omega]
      exact ⟨_, lockedReport_told _, rfl⟩

/-- What the spindle controller does with a pulse. -/
theorem spindlePulse_counted (ns : Nat) (s : State) : PulseCounted ns s (spindlePulse ns s) := by
  refine ⟨fun h => by simp [spindlePulse, h], fun h => by simp [spindlePulse, h], fun h1 h2 => ?_⟩
  have e : spindlePulse ns s = match (s.spindle.framing.pulse ns).2 with
      | none => s.setSpindle { s.spindle with framing := (s.spindle.framing.pulse ns).1 }
      | some m => closeRevolution m (s.setSpindle { s.spindle with framing := (s.spindle.framing.pulse ns).1 }) := by
    unfold spindlePulse
    cases hs : s.spindle.state <;> first | exact absurd hs h1 | exact absurd hs h2 | rfl
  refine ⟨fun hf => ?_, fun hf => ?_, fun k t hf => ⟨fun hk => ?_, fun hk => ?_⟩⟩
  · simp only [e, hf, Framing.pulse]; rw [← hf]; rfl
  · simp [e, hf, Framing.pulse]
  · simp [e, hf, Framing.pulse, Config.pulsesPerRev, show k + 1 < 32 by omega]
  · have hn : ¬ k + 1 < Config.pulsesPerRev := by unfold Config.pulsesPerRev; omega
    simp only [e, hf, Framing.pulse, if_neg hn]
    exact closeRevolution_closed _ _ h1 h2

/-- What TACH_PULSE does once the codec has taken the pulse. -/
theorem execTachPulse_goesOn (ns : Nat) (s u : State) (hc : codecPulse ns s = u) : PulseGoesOn ns s u := by
  refine ⟨spindlePulse ns u, spindlePulse_counted ns u, ?_⟩
  show execTachPulse ns s = _
  unfold execTachPulse
  rw [hc, afterEngine]
  simp

/-! ## What comes together with an LRST -/

theorem addressReport_idle (id : SectorId) (s : State) (h : ∀ c, s.pos.state ≠ .idle c) : addressReport id s = s := by
  unfold addressReport positionFaultReport
  cases hp : s.pos.state <;> simp_all <;> split <;> rfl

/-- What LRST takes before itself is what the statements say (08 R148). -/
theorem takenBefore_eq (bits : List Bool) (s v : State) (h : TakenBeforeReset s bits v) : takenBefore bits s = v := by
  unfold takenBefore
  cases h with
  | noHunt hm =>
    split
    · exact absurd ‹_› (hm _ _)
    all_goals rfl
  | unended _ _ _ hm hr => simp [hm, hr]
  | decodeFault _ _ hm hr => simp [hm, hr, State.countDecodeFault]
  | badCheck _ _ hm hr => simp [hm, hr, State.countAddrError]
  | onTrack target id _ hm hr hw =>
    simp only [hm, hr, ite_eq_left_iff]
    intro hne
    replace hw := hw.resolve_left hne
    cases ho : s.engine.op with
    | none => simp [addressReport, Engine.working, ho]
    | some op =>
      by_cases hd : op.stage = .drain
      · simp [addressReport, Engine.working, ho, hd]
      · simp [addressReport, Engine.working, ho, hd, Op.misplaces, hw op ho hd]
  | reported target id _ op c hm hr hne ho hd hat hp =>
    simp [hm, hr, hne, addressReport, Engine.working, ho, hd, Op.misplaces, hat, positionFaultReport, hp, detailNat]
  | unheld target _ hm hr hp =>
    obtain ⟨id, hr⟩ := hr
    simp [hm, hr, addressReport_idle id s hp]

end Sys2Proof.Machine
end

