-- ==== Sys2Proof/Laws/Codec.lean ====
section
/-!
SUPPORT. The bits of a byte, the bit receiver of the link over whole bytes, and what the codec's bit reader does with a
framed byte and with a mark search.
-/

set_option Elab.async false

namespace Sys2Proof.Machine

/-! ## Small updates -/

@[simp] theorem State.setReader_lines (s : State) (r : Reader) : (s.setReader r).lines = s.lines := rfl
@[simp] theorem State.setReader_link (s : State) (r : Reader) : (s.setReader r).link = s.link := rfl
@[simp] theorem State.setReader_arb (s : State) (r : Reader) : (s.setReader r).arb = s.arb := rfl
@[simp] theorem State.setReader_queue (s : State) (r : Reader) : (s.setReader r).queue = s.queue := rfl
@[simp] theorem State.setReader_buffer (s : State) (r : Reader) : (s.setReader r).buffer = s.buffer := rfl
@[simp] theorem State.setReader_tables (s : State) (r : Reader) : (s.setReader r).tables = s.tables := rfl
@[simp] theorem State.setReader_engine (s : State) (r : Reader) : (s.setReader r).engine = s.engine := rfl
@[simp] theorem State.setReader_spindle (s : State) (r : Reader) : (s.setReader r).spindle = s.spindle := rfl
@[simp] theorem State.setReader_pos (s : State) (r : Reader) : (s.setReader r).pos = s.pos := rfl
@[simp] theorem State.setReader_events (s : State) (r : Reader) : (s.setReader r).events = s.events := rfl
@[simp] theorem State.setReader_pins (s : State) (r : Reader) : (s.setReader r).pins = s.pins := rfl
@[simp] theorem State.setReader_pending (s : State) (r : Reader) : (s.setReader r).pending = s.pending := rfl
@[simp] theorem State.setReader_codec (s : State) (r : Reader) : (s.setReader r).codec = { s.codec with reader := r } := rfl

@[simp] theorem State.setLane_lines (s : State) (l : Option (List Bool)) : (s.setLane l).lines = s.lines := rfl
@[simp] theorem State.setLane_arb (s : State) (l : Option (List Bool)) : (s.setLane l).arb = s.arb := rfl
@[simp] theorem State.setLane_queue (s : State) (l : Option (List Bool)) : (s.setLane l).queue = s.queue := rfl
@[simp] theorem State.setLane_buffer (s : State) (l : Option (List Bool)) : (s.setLane l).buffer = s.buffer := rfl
@[simp] theorem State.setLane_tables (s : State) (l : Option (List Bool)) : (s.setLane l).tables = s.tables := rfl
@[simp] theorem State.setLane_engine (s : State) (l : Option (List Bool)) : (s.setLane l).engine = s.engine := rfl
@[simp] theorem State.setLane_codec (s : State) (l : Option (List Bool)) : (s.setLane l).codec = s.codec := rfl
@[simp] theorem State.setLane_spindle (s : State) (l : Option (List Bool)) : (s.setLane l).spindle = s.spindle := rfl
@[simp] theorem State.setLane_pos (s : State) (l : Option (List Bool)) : (s.setLane l).pos = s.pos := rfl
@[simp] theorem State.setLane_events (s : State) (l : Option (List Bool)) : (s.setLane l).events = s.events := rfl
@[simp] theorem State.setLane_pins (s : State) (l : Option (List Bool)) : (s.setLane l).pins = s.pins := rfl
@[simp] theorem State.setLane_pending (s : State) (l : Option (List Bool)) : (s.setLane l).pending = s.pending := rfl
@[simp] theorem State.setLane_link (s : State) (l : Option (List Bool)) : (s.setLane l).link = { s.link with lane := l } :=
  rfl

@[simp] theorem keepDecoded_lines (a : Action) (d : List Byte) (s : State) : (keepDecoded a d s).lines = s.lines := by
  cases a <;> rfl
@[simp] theorem keepDecoded_link (a : Action) (d : List Byte) (s : State) : (keepDecoded a d s).link = s.link := by
  cases a <;> rfl
@[simp] theorem keepDecoded_arb (a : Action) (d : List Byte) (s : State) : (keepDecoded a d s).arb = s.arb := by
  cases a <;> rfl
@[simp] theorem keepDecoded_queue (a : Action) (d : List Byte) (s : State) : (keepDecoded a d s).queue = s.queue := by
  cases a <;> rfl
@[simp] theorem keepDecoded_tables (a : Action) (d : List Byte) (s : State) : (keepDecoded a d s).tables = s.tables := by
  cases a <;> rfl
@[simp] theorem keepDecoded_engine (a : Action) (d : List Byte) (s : State) : (keepDecoded a d s).engine = s.engine := by
  cases a <;> rfl
@[simp] theorem keepDecoded_codec (a : Action) (d : List Byte) (s : State) : (keepDecoded a d s).codec = s.codec := by
  cases a <;> rfl
@[simp] theorem keepDecoded_spindle (a : Action) (d : List Byte) (s : State) : (keepDecoded a d s).spindle = s.spindle := by
  cases a <;> rfl
@[simp] theorem keepDecoded_pos (a : Action) (d : List Byte) (s : State) : (keepDecoded a d s).pos = s.pos := by
  cases a <;> rfl
@[simp] theorem keepDecoded_events (a : Action) (d : List Byte) (s : State) : (keepDecoded a d s).events = s.events := by
  cases a <;> rfl
@[simp] theorem keepDecoded_pins (a : Action) (d : List Byte) (s : State) : (keepDecoded a d s).pins = s.pins := by
  cases a <;> rfl
@[simp] theorem keepDecoded_pending (a : Action) (d : List Byte) (s : State) : (keepDecoded a d s).pending = s.pending := by
  cases a <;> rfl

@[simp] theorem Codec.toIdle_mode (c : Codec) : c.toIdle.mode = .idle := rfl
@[simp] theorem Codec.toIdle_stopHeld (c : Codec) : c.toIdle.stopHeld = false := rfl
@[simp] theorem Codec.toIdle_head (c : Codec) : c.toIdle.head = c.head := rfl
@[simp] theorem Codec.toIdle_reader (c : Codec) : c.toIdle.reader = .clear := rfl
@[simp] theorem Codec.toIdle_wdata (c : Codec) : c.toIdle.wdata = [] := rfl
@[simp] theorem Codec.toIdle_addrErrors (c : Codec) : c.toIdle.addrErrors = c.addrErrors := rfl
@[simp] theorem Codec.toIdle_decodeFaults (c : Codec) : c.toIdle.decodeFaults = c.decodeFaults := rfl
@[simp] theorem Codec.toIdle_wgate (c : Codec) : c.toIdle.wgate = false := rfl

/-- Decoded bytes change what a page holds, never how many pages there are (01 R14, 04 R54). -/
@[simp] theorem keepDecoded_pages_length (a : Action) (d : List Byte) (s : State) :
    (keepDecoded a d s).buffer.pages.length = s.buffer.pages.length := by
  cases a <;> simp [keepDecoded, storeDecoded, Buffer.setPage]

/-! ## The bits of a byte (00_scope.md, bit order) -/

@[simp] theorem byteBits_length (b : Byte) : (byteBits b).length = 8 := rfl
@[simp] theorem laneByte_length (b : Byte) : (laneByte b).length = 9 := rfl

/-- A byte read back from its bits. -/
@[simp] theorem byte_bitsNat_byteBits (b : Byte) : byte (bitsNat (byteBits b)) = b := by
  have h : ∀ n < 256, byte (bitsNat (byteBits (BitVec.ofNat 8 n))) = BitVec.ofNat 8 n := by decide +kernel
  simpa using h b.toNat b.isLt

theorem toBits_cons (b : Byte) (bs : List Byte) : toBits (b :: bs) = byteBits b ++ toBits bs := rfl

/-! ## The bit receiver (09 R153) -/

/-- Idle bits change nothing. -/
theorem readLane_idle (n : Nat) (bits : List Bool) :
    readLane none (List.replicate n true ++ bits) = readLane none bits := by
  induction n with
  | zero => rfl
  | succ n ih => simpa [List.replicate_succ, readLane] using ih

/-- The bits of a byte that do not complete it are kept. -/
theorem readLane_part (got bits : List Bool) (h : got.length + bits.length < 8) :
    readLane (some got) bits = .more (some (got ++ bits)) := by
  induction bits generalizing got with
  | nil => simp [readLane]
  | cons b bs ih =>
    simp only [List.length_cons] at h
    rw [readLane, if_pos (by omega), ih _ (by simp; omega)]
    simp

/-- The rest of a byte completes it, whatever was taken before; what follows is not read. -/
theorem readLane_rest (got more rest : List Bool) (b : Byte) (h : got ++ more = byteBits b) (hne : more ≠ []) :
    readLane (some got) (more ++ rest) = .byte b := by
  induction more generalizing got with
  | nil => exact absurd rfl hne
  | cons x xs ih =>
    have hl := congrArg List.length h
    simp only [List.length_append, List.length_cons, byteBits_length] at hl
    rw [List.cons_append, readLane]
    cases xs with
    | nil =>
      rw [if_neg (by simp at hl; omega), h, byte_bitsNat_byteBits]
    | cons y ys =>
      rw [if_pos (by simp at hl; omega)]
      exact ih _ (by simpa using h) (by simp)

/-- A start bit and eight bits make the byte. -/
theorem readLane_laneByte (b : Byte) (rest : List Bool) : readLane none (laneByte b ++ rest) = .byte b := by
  have h : readLane none (laneByte b ++ rest) = readLane (some []) (byteBits b ++ rest) := rfl
  rw [h]
  exact readLane_rest [] _ rest b (by simp) (by simp [byteBits])

/-! ## A framed byte (01 R12, R13) -/

/-- The bits of a byte after its first go into the framer. -/
theorem OpenField.bit_inside (inverse : List (Option Nat)) (codes covered : Nat) (b : Bool) (f : OpenField)
    (h0 : f.framer ≠ []) (h7 : f.framer.length < 7) :
    f.bit inverse codes covered b = .more { f with framer := f.framer ++ [b] } := by
  simp [OpenField.bit, h0, h7]

/-- A byte begins at a 1 bit; at a 0 the field slips. -/
theorem OpenField.bit_first (inverse : List (Option Nat)) (codes covered : Nat) (b : Bool) (f : OpenField)
    (h : f.framer = []) :
    f.bit inverse codes covered b = if b then .more { f with framer := [true] } else .fault := by
  cases b <;> simp [OpenField.bit, h]

/-- The eighth bit makes a byte of the field. -/
theorem OpenField.bit_last (inverse : List (Option Nat)) (codes covered : Nat) (b : Bool) (f : OpenField)
    (h : f.framer.length = 7) :
    f.bit inverse codes covered b =
      OpenField.framed inverse codes covered (byte (bitsNat (f.framer ++ [b]))) { f with framer := [] } := by
  have h0 : f.framer ≠ [] := by intro e; simp [e] at h
  simp [OpenField.bit, h0, h]

/-- HUNT over a whole byte of an open address field. -/
theorem readAddress_byte (inverse : List (Option Nat)) (w : BitVec 24) (n : Nat) (f : OpenField) (v : Byte)
    (rest : List Bool) (hf : f.framer = []) (hv : v.getLsbD 7 = true) :
    readAddress inverse ⟨w, n, some f⟩ (byteBits v ++ rest) =
      match OpenField.framed inverse 8 4 v f with
      | .more f' => readAddress inverse ⟨w, n, some f'⟩ rest
      | .fault => .fault
      | .trailer => if f.checkGood 4 then .good (.ofPayload f.payload) else .badCheck := by
  obtain ⟨framer, count, assembler, payload, crc⟩ := f
  subst hf
  have hb := byte_bitsNat_byteBits v
  simp only [byteBits, hv] at hb
  simp only [byteBits, hv, List.cons_append, List.nil_append, readAddress, OpenField.bit, List.length_cons,
    List.length_nil, Nat.reduceAdd, Nat.reduceLT, if_true, if_false, reduceCtorEq, false_and, and_false, hb]
  rfl

/-- DATA_READ over a whole byte of an open data field. -/
theorem readData_byte (inverse : List (Option Nat)) (w : BitVec 24) (n : Nat) (f : OpenField) (v : Byte)
    (rest : List Bool) (hf : f.framer = []) (hv : v.getLsbD 7 = true) :
    readData inverse ⟨w, n, some f⟩ (byteBits v ++ rest) =
      match OpenField.framed inverse 686 Config.pageBytes v f with
      | .more f' => readData inverse ⟨w, n, some f'⟩ rest
      | .fault => .fault f.data
      | .trailer => .whole f.data (f.checkGood Config.pageBytes) := by
  obtain ⟨framer, count, assembler, payload, crc⟩ := f
  subst hf
  have hb := byte_bitsNat_byteBits v
  simp only [byteBits, hv] at hb
  simp only [byteBits, hv, List.cons_append, List.nil_append, readData, OpenField.bit, List.length_cons,
    List.length_nil, Nat.reduceAdd, Nat.reduceLT, if_true, if_false, reduceCtorEq, false_and, and_false, hb]
  rfl

/-- A decoded group leaves the framer alone and raises the count. -/
theorem OpenField.takeGroup_framer (covered g : Nat) (f : OpenField) : (f.takeGroup covered g).framer = f.framer := by
  unfold OpenField.takeGroup
  dsimp only
  split <;> rfl

theorem OpenField.takeGroup_count (covered g : Nat) (f : OpenField) :
    (f.takeGroup covered g).count = f.count + 1 := by
  unfold OpenField.takeGroup
  dsimp only
  split <;> rfl

/-! ## The mark search (01 R11, R14) -/

/-- A bit of the search opens a field exactly when the window now holds the mark. -/
theorem Reader.search_field (mark : BitVec 24) (b : Bool) (r : Reader) (h : r.field = none) :
    (r.search mark b).field = if shiftWindow r.window b = mark then some .start else none := by
  unfold Reader.search
  split <;> simp [h]

/-- A bit that completes no mark only enters the window. -/
theorem Reader.search_miss (mark : BitVec 24) (b : Bool) (r : Reader) (h : shiftWindow r.window b ≠ mark) :
    r.search mark b = { r with window := shiftWindow r.window b } := if_neg h

/-! ## The levels of the data outputs (01 R17, 09 R153) -/

@[simp] theorem fillTo_length (n : Nat) (bytes : List Byte) : (fillTo n bytes).length = max bytes.length n := by
  simp [fillTo]; omega

theorem Codec.wdataLevel_off (c : Codec) (n : Nat) (h : c.wgate = false) : c.wdataLevel n = true := by
  simp [Codec.wdataLevel, h]

theorem Arbiter.hoDat_idle (a : Arbiter) (n : Nat) (h : a.ho = none) : a.hoDat n = true := by
  simp [Arbiter.hoDat, h]

end Sys2Proof.Machine
end

