-- ==== Sys2Proof/Laws/PerInstr.lean ====
section
/-!
SUPPORT. The law proved for each command: the frame of a well-formed host command fits the link (09 R154, R155, R157).
-/

set_option Elab.async false

namespace Sys2Proof.Laws.FrameForm

open Sys2Proof Sys2Proof.Machine

/-- A well-formed command that is a host frame carries a LEN of 2 to 515, so that every one is inside the 2 to 522 the
receiver takes and no payload is longer than a BLOCK's 513 bytes (09 R155, R157). -/
def Statement (i : Instr) : Prop :=
  i.wellFormed = true → ∀ kind tag payload, encodeFrame i = some (kind, tag, payload) →
    2 ≤ payload.length + 2 ∧ payload.length + 2 ≤ 515

theorem powerOn : Statement (.powerOn) := by
  intro _ _ _ _ he; simp [encodeFrame] at he

theorem reset : Statement (.reset) := by
  intro _ _ _ _ he; simp [encodeFrame] at he

theorem lrst (bits : List Bool) : Statement (.lrst bits) := by
  intro _ _ _ _ he; simp [encodeFrame] at he

theorem resetRelease (line : ResetLine) : Statement (.resetRelease line) := by
  intro _ _ _ _ he; simp [encodeFrame] at he

theorem hiByte (bits : List Bool) : Statement (.hiByte bits) := by
  intro _ _ _ _ he; simp [encodeFrame] at he

theorem read (tag : Tag) (lba : Lba) (count flags : Byte) : Statement (.read tag lba count flags) := by
  intro _ _ _ _ he; simp only [encodeFrame, Option.some.injEq, Prod.mk.injEq] at he
  obtain ⟨-, -, rfl⟩ := he; simp [lbaBytes]

theorem write (tag : Tag) (lba : Lba) (count flags : Byte) : Statement (.write tag lba count flags) := by
  intro _ _ _ _ he; simp only [encodeFrame, Option.some.injEq, Prod.mk.injEq] at he
  obtain ⟨-, -, rfl⟩ := he; simp [lbaBytes]

theorem verify (tag : Tag) (lba : Lba) (count flags : Byte) : Statement (.verify tag lba count flags) := by
  intro _ _ _ _ he; simp only [encodeFrame, Option.some.injEq, Prod.mk.injEq] at he
  obtain ⟨-, -, rfl⟩ := he; simp [lbaBytes]

theorem format (tag : Tag) (cylinder head flags : Byte) : Statement (.format tag cylinder head flags) := by
  intro _ _ _ _ he; simp only [encodeFrame, Option.some.injEq, Prod.mk.injEq] at he
  obtain ⟨-, -, rfl⟩ := he; simp

theorem reassign (tag : Tag) (lba : Lba) : Statement (.reassign tag lba) := by
  intro _ _ _ _ he; simp only [encodeFrame, Option.some.injEq, Prod.mk.injEq] at he
  obtain ⟨-, -, rfl⟩ := he; simp [lbaBytes]

theorem recal (tag : Tag) : Statement (.recal tag) := by
  intro _ _ _ _ he; simp only [encodeFrame, Option.some.injEq, Prod.mk.injEq] at he
  obtain ⟨-, -, rfl⟩ := he; simp

theorem spin (tag : Tag) (mode : Byte) : Statement (.spin tag mode) := by
  intro _ _ _ _ he; simp only [encodeFrame, Option.some.injEq, Prod.mk.injEq] at he
  obtain ⟨-, -, rfl⟩ := he; simp

theorem block (tag : Tag) (index : Byte) (data : List Byte) : Statement (.block tag index data) := by
  intro h kind tag' payload he
  simp only [encodeFrame, Option.some.injEq, Prod.mk.injEq] at he
  obtain ⟨-, -, rfl⟩ := he
  simp only [Instr.wellFormed, blockDataOk, beq_iff_eq] at h
  simp [h]

theorem loadOpen (seq table : Byte) : Statement (.loadOpen seq table) := by
  intro _ _ _ _ he; simp only [encodeFrame, Option.some.injEq, Prod.mk.injEq] at he
  obtain ⟨-, -, rfl⟩ := he; simp

theorem loadPut (seq : Byte) (entries : List Byte) : Statement (.loadPut seq entries) := by
  intro h kind tag' payload he
  simp only [encodeFrame, Option.some.injEq, Prod.mk.injEq] at he
  obtain ⟨-, -, rfl⟩ := he
  simp only [Instr.wellFormed, loadPutOk, decide_eq_true_eq] at h
  omega

theorem loadClose (seq : Byte) : Statement (.loadClose seq) := by
  intro _ _ _ _ he; simp only [encodeFrame, Option.some.injEq, Prod.mk.injEq] at he
  obtain ⟨-, -, rfl⟩ := he; simp

theorem loadDrop (seq table : Byte) : Statement (.loadDrop seq table) := by
  intro _ _ _ _ he; simp only [encodeFrame, Option.some.injEq, Prod.mk.injEq] at he
  obtain ⟨-, -, rfl⟩ := he; simp

theorem commit (seq : Byte) : Statement (.commit seq) := by
  intro _ _ _ _ he; simp only [encodeFrame, Option.some.injEq, Prod.mk.injEq] at he
  obtain ⟨-, -, rfl⟩ := he; simp

theorem tableGet (seq table first : Byte) : Statement (.tableGet seq table first) := by
  intro _ _ _ _ he; simp only [encodeFrame, Option.some.injEq, Prod.mk.injEq] at he
  obtain ⟨-, -, rfl⟩ := he; simp

theorem wipe (seq : Byte) : Statement (.wipe seq) := by
  intro _ _ _ _ he; simp only [encodeFrame, Option.some.injEq, Prod.mk.injEq] at he
  obtain ⟨-, -, rfl⟩ := he; simp

theorem query (seq flags : Byte) : Statement (.query seq flags) := by
  intro _ _ _ _ he; simp only [encodeFrame, Option.some.injEq, Prod.mk.injEq] at he
  obtain ⟨-, -, rfl⟩ := he; simp

theorem eventSet (seq : Byte) (mask : BitVec 16) : Statement (.eventSet seq mask) := by
  intro _ _ _ _ he; simp only [encodeFrame, Option.some.injEq, Prod.mk.injEq] at he
  obtain ⟨-, -, rfl⟩ := he; simp

theorem eventAck (seq acked : Byte) : Statement (.eventAck seq acked) := by
  intro _ _ _ _ he; simp only [encodeFrame, Option.some.injEq, Prod.mk.injEq] at he
  obtain ⟨-, -, rfl⟩ := he; simp

theorem abort (seq : Byte) (tag : Tag) : Statement (.abort seq tag) := by
  intro _ _ _ _ he; simp only [encodeFrame, Option.some.injEq, Prod.mk.injEq] at he
  obtain ⟨-, -, rfl⟩ := he; simp

theorem noticeSent : Statement (.noticeSent) := by
  intro _ _ _ _ he; simp [encodeFrame] at he

theorem replySent : Statement (.replySent) := by
  intro _ _ _ _ he; simp [encodeFrame] at he

theorem doneSent : Statement (.doneSent) := by
  intro _ _ _ _ he; simp [encodeFrame] at he

theorem callSent : Statement (.callSent) := by
  intro _ _ _ _ he; simp [encodeFrame] at he

theorem blockSent : Statement (.blockSent) := by
  intro _ _ _ _ he; simp [encodeFrame] at he

theorem eventSent : Statement (.eventSent) := by
  intro _ _ _ _ he; simp [encodeFrame] at he

theorem dataTimeout (tag : Tag) : Statement (.dataTimeout tag) := by
  intro _ _ _ _ he; simp [encodeFrame] at he

theorem tachPulse (ns : Nat) : Statement (.tachPulse ns) := by
  intro _ _ _ _ he; simp [encodeFrame] at he

theorem enterLocked : Statement (.enterLocked) := by
  intro _ _ _ _ he; simp [encodeFrame] at he

theorem enterLost : Statement (.enterLost) := by
  intro _ _ _ _ he; simp [encodeFrame] at he

theorem stallTimeout : Statement (.stallTimeout) := by
  intro _ _ _ _ he; simp [encodeFrame] at he

theorem spinupTimeout : Statement (.spinupTimeout) := by
  intro _ _ _ _ he; simp [encodeFrame] at he

theorem retargetTimeout : Statement (.retargetTimeout) := by
  intro _ _ _ _ he; simp [encodeFrame] at he

theorem silenceTimeout : Statement (.silenceTimeout) := by
  intro _ _ _ _ he; simp [encodeFrame] at he

theorem idleTimeout : Statement (.idleTimeout) := by
  intro _ _ _ _ he; simp [encodeFrame] at he

theorem stepTimerExpiry (trk0 : Bool) : Statement (.stepTimerExpiry trk0) := by
  intro _ _ _ _ he; simp [encodeFrame] at he

theorem settleTimerExpiry (trk0 : Bool) : Statement (.settleTimerExpiry trk0) := by
  intro _ _ _ _ he; simp [encodeFrame] at he

theorem addressFieldEnd (bits : List Bool) : Statement (.addressFieldEnd bits) := by
  intro _ _ _ _ he; simp [encodeFrame] at he

theorem huntTimeout : Statement (.huntTimeout) := by
  intro _ _ _ _ he; simp [encodeFrame] at he

theorem dataMarkTimeout : Statement .dataMarkTimeout := by
  intro _ _ _ _ he; simp [encodeFrame] at he

theorem dataReadEnd (bits : List Bool) : Statement (.dataReadEnd bits) := by
  intro _ _ _ _ he; simp [encodeFrame] at he

theorem gap2End : Statement .gap2End := by
  intro _ _ _ _ he; simp [encodeFrame] at he

theorem written : Statement .written := by
  intro _ _ _ _ he; simp [encodeFrame] at he

theorem wprotChange (active : Bool) : Statement (.wprotChange active) := by
  intro _ _ _ _ he; simp [encodeFrame] at he

theorem resendTimeout : Statement (.resendTimeout) := by
  intro _ _ _ _ he; simp [encodeFrame] at he

theorem vretLoss : Statement (.vretLoss) := by
  intro _ _ _ _ he; simp [encodeFrame] at he

end Sys2Proof.Laws.FrameForm
end

