-- ==== Sys2Proof/Tests/Slice0.lean ====
section
/-!
SUPPORT. Tests against the manual's own worked examples (each names its place), the checks of WellFormed on ill-formed
terms, and for every statement with hypotheses a state that meets them. States are small: four pages of two bytes.
-/

set_option Elab.async false

namespace Sys2Proof.Tests

open Sys2Proof Sys2Proof.Machine

/-! ## States -/

/-- The reference code table (01 section 1.2): the 64 lowest allowed values. -/
def refCode : List Byte := (((List.range 256).map byte).filter codeByteOk).take 64

/-- The worked device record (02, worked configuration; 03, 06, 07 and 08 worked examples). -/
def device : Device :=
  ⟨160, 3, 3, 15, 5, 3, 60, 96, 2, 2, 1, true, false, 16, 5, 2⟩

/-- The worked zone table (02). -/
def zones : List Zone :=
  [⟨0, 40, 900, 11, 16, 1, false⟩, ⟨40, 40, 1050, 9, 16, 1, false⟩,
   ⟨80, 40, 1200, 8, 16, 1, false⟩, ⟨120, 40, 1500, 6, 16, 1, false⟩]

/-- The starting map of 03's worked example. -/
def startMap : List Defect := [.remap 212 0 .loaded, .retire 2 5 .loaded]

def worked (map : List Defect) : ActiveSet := ⟨device, zones, refCode, map⟩

/-- The worked tables at generation 7, with no staging and no session. -/
def tables (map : List Defect) : Tables := Tables.cold.install (worked map) 7

def smallBuffer : Buffer := ⟨List.replicate 4 ⟨.free, [0, 0]⟩, [], [], 0⟩

/-- A part with its NOTICE sent, not configured. -/
def bare : State := { State.afterReset .cold ⟨false, false⟩ [] with buffer := smallBuffer }

/-- The same part with the worked tables. -/
def part : State := { bare with tables := tables [] }

def record (tag : Tag) (req : Request) (st : ReqState) : Record := ⟨tag, req, st, 0, none⟩

/-- A part whose tag table holds these records. -/
def holding (rs : List Record) (s : State) : State :=
  { s with queue := { s.queue with records := rs, credits := 8 - rs.length } }

def verify1000 : Request := .verify 1000 1 0
def write1000 : Request := .write 1000 1 0
def read1000 : Request := .read 1000 2 0

/-- The home of LBA 1000 (02, worked example). -/
def home1000 : Placement := ⟨1000, 1, 47, 1, 7, .home, false, 1050⟩
def sector1000 : SectorId := ⟨47, 1, 7, 1⟩

/-- An operation at work on LBA 1000. -/
def op1000 (req : Request) (purpose : Purpose) (stage : EngineStage) : Op :=
  { Op.begin 3 req with
    stage := stage, placement := some home1000, target := home1000.target, purpose := purpose }

def spinning (st : SpinState) : Spindle :=
  { Spindle.reset with state := st, target := some ⟨1050, 1⟩, level := 150, framing := .running 30 50000000 }

/-- The head on cylinder 47, the spindle LOCKED at 1050 rpm. -/
def ready : State := { part with pos := { part.pos with state := .idle 47 }, spindle := spinning .locked }

/-- Tag 3 ACTIVE with an operation, the codec in a mode. -/
def active (op : Op) (mode : CodecMode) : State :=
  let s := holding [record 3 op.req .active] ready
  { s with engine := { s.engine with op := some op }, codec := { s.codec with mode := mode } }

/-- A sector write with its gate up. -/
def gateUp : State :=
  let s := active (op1000 write1000 .write .transfer) (.dataWrite sector1000 (.page 0) (.sending 0 0xFFFF))
  { s with codec := { s.codec with wdata := [0xE6, 0xB3, 0xCB] } }

def after (r : Result) : State :=
  match r with
  | .next t => t
  | .fault _ | .refused _ => bare

def run (i : Instr) (s : State) : State := after (exec i s)

/-! ## Well-formed commands -/

theorem test_wellFormed_block_refused : (Instr.block 3 0 [1, 2]).wellFormed = false := by decide
theorem test_wellFormed_loadPut_empty_refused : (Instr.loadPut 0x11 []).wellFormed = false := by decide
theorem test_wellFormed_loadPut_long_refused :
    (Instr.loadPut 0x11 (List.replicate 513 0)).wellFormed = false := by decide +kernel
theorem test_wellFormed_block : (Instr.block 3 0 (List.replicate 512 0)).wellFormed = true := by decide +kernel

/-! ## Frames and words -/

/-- 09, frame exchange of a write: WRITE, TAG 03h, LBA 0003E8h, count 2, flags 00h, LEN 7. -/
theorem test_decode_write :
    decodeFrame 0x02 0x03 [0x00, 0x03, 0xE8, 0x02, 0x00] = some (.write 3 1000 2 0) := by decide
/-- 09 R160: the index, then 512 bytes. -/
theorem test_decode_block_short : decodeFrame 0x10 0x03 [0x00, 0xAA] = none := by decide
/-- 09 R161: EVENT_SET carries a 16-bit mask. -/
theorem test_decode_eventSet : decodeFrame 0x28 0x40 [0x07, 0xFF] = some (.eventSet 0x40 0x07FF) := by decide
/-- 09 R157: 41h is no kind (09, a damaged frame). -/
theorem test_decode_unknown : decodeFrame 0x41 0x05 [0x00, 0x01, 0x2C, 0x04, 0x00] = none := by decide
/-- 09 R153: SYNC, C3h, after idle bits, in two parts. -/
theorem test_lane :
    (run (.hiByte [true, true, false, true, true]) part).link.lane = some [true, true] ∧
    (run (.hiByte [false, false, false, false, true, true])
      (run (.hiByte [true, true, false, true, true]) part)).link.rx = .header none := by decide
/-- 09 R153: the start bit and SYNC of a frame on HO. -/
theorem test_hoDat :
    (List.range 10).map State.reset.arb.hoDat =
      [false, true, true, false, false, false, false, true, true, false] := by decide
/-- 98_reader.md: no row has bits. -/
theorem test_word : decodeTableWord 32 5 = none := by decide

/-! ## Checks and recorded fields (01) -/

/-- 01 R6: the check over 31h to 39h is 29B1h. -/
theorem test_crc16 : crc16 [0x31, 0x32, 0x33, 0x34, 0x35, 0x36, 0x37, 0x38, 0x39] = 0x29B1 := by decide
/-- 10 R182: CBF43926h. -/
theorem test_crc32 :
    crc32 [0x31, 0x32, 0x33, 0x34, 0x35, 0x36, 0x37, 0x38, 0x39] = 0xCBF43926#32 := by decide
/-- 01 R1, R2: 81 recordable values, 75 of them allowed. -/
theorem test_recordable : ((List.range 256).filter fun n => recordable (byte n)).length = 81 := by decide
theorem test_allowed : ((List.range 256).filter fun n => codeByteOk (byte n)).length = 75 := by decide
/-- 01, the address field of LBA 1000. -/
theorem test_addressField :
    addressField refCode sector1000 =
      [0xE6, 0xB3, 0x9D, 0x9F, 0xDA, 0x96, 0x9A, 0x92, 0xBA, 0xCE, 0xCD, 0xEB] := by decide
/-- 01, its reading, from gap 1 on. -/
theorem test_readAddress :
    readAddress (buildInverse refCode) .clear
      (toBits [0xFF, 0xE6, 0xB3, 0x9D, 0x9F, 0xDA, 0x96, 0x9A, 0x92, 0xBA, 0xCE, 0xCD, 0xEB]) = .good sector1000 := by
  decide
/-- 01 R11: the data mark is passed over in HUNT. -/
theorem test_dataMark_passed :
    readAddress [] .clear (toBits [0xE6, 0xB3, 0xCB]) = .more ⟨0xE6B3CB, 0, none⟩ := by decide
/-- 01 R14 step 1: 127 bits without a mark leave the search open, the 128th ends it. -/
theorem test_mark_window :
    readData [] .clear (List.replicate 127 true) = .more ⟨0xFFFFFF, 127, none⟩ ∧
    readData [] .clear (List.replicate 128 true) = .noMark := by decide +kernel
/-- 01 R17: MARK_A, E6h, most significant bit first. -/
theorem test_wdata :
    (List.range 8).map gateUp.codec.wdataLevel = [true, true, true, false, false, true, true, false] := by decide
/-- 01 R18 step 2: FILL after the last sector. -/
theorem test_fill : fillTo 5 [0xE6, 0xB3] = [0xE6, 0xB3, 0xFF, 0xFF, 0xFF] := by decide

/-! ## Zones, placement, budgets (01, 02) -/

theorem test_budgets : zones.map (fun z => trackBudget z.rpm 1000) = [8083, 6927, 6062, 4850] := by decide
theorem test_zoneRecs :
    (deriveZones zones).map (fun r => (r.firstLba, r.dataCapacity, r.spareSlots)) =
      [(0, 858, 22), (858, 702, 18), (1560, 624, 16), (2184, 468, 12)] := by decide
theorem test_homes :
    [0, 11, 857, 858, 1000, 1559, 1560, 2651].map (fun n => (tables []).homeLocation n) =
      [⟨0, 0, 0⟩, ⟨0, 1, 0⟩, ⟨38, 1, 10⟩, ⟨40, 0, 0⟩, ⟨47, 1, 7⟩, ⟨78, 1, 8⟩, ⟨80, 0, 0⟩, ⟨158, 1, 5⟩] := by
  decide
theorem test_slots :
    [(0, 21), (1, 17), (3, 11)].map (fun k => (tables []).slotLocation k.1 k.2) =
      [⟨39, 1, 10⟩, ⟨79, 1, 8⟩, ⟨159, 1, 5⟩] := by decide
/-- 02, placement through a REMAP entry. -/
theorem test_remapped :
    (tables [.remap 1000 3 .grown]).placement 1000 = ⟨1000, 1, 79, 0, 3, .spare 3, false, 1050⟩ := by decide
/-- 02, a table that fails at LOAD_CLOSE: zone 2 begins at 81. -/
theorem test_zone_order :
    checkZones (([zones.getD 0 .none, zones.getD 1 .none, ⟨81, 40, 1200, 8, 16, 1, false⟩]).map Zone.bytes) =
      some ⟨.order, 2⟩ := by decide

/-! ## The defect map (03) -/

/-- 03, starting state: free counts 21, 18, 15, 12. -/
theorem test_freeCounts : (tables startMap).slots.map (·.free) = [21, 18, 15, 12] := by decide
/-- 03, after the trials of slots 0 and 1. -/
theorem test_map_growth :
    (((tables startMap).retireSlot 1 0).remapTo 1000 1 1).map =
      [.remap 212 0 .loaded, .remap 1000 1 .grown, .retire 1 0 .grown, .retire 2 5 .loaded] := by decide
theorem test_map_growth_counts :
    ((((tables startMap).retireSlot 1 0).remapTo 1000 1 1).slots.map (·.free),
      (((tables startMap).retireSlot 1 0).remapTo 1000 1 1).generation) = ([21, 16, 15, 12], 9) := by decide

/-! ## Spindle (07) -/

/-- 07, spin-up to zone 0: the levels after revolutions 1 to 9. -/
theorem test_spinup_levels :
    [200000, 120000, 90000, 72000, 68000, 66900, 67200, 66400, 66700].foldl
      (fun ls m => ls ++ [controlLaw (ls.getLastD 96) (deviation m 900)]) [] =
      [112, 128, 144, 152, 154, 154, 155, 155, 155] := by decide
/-- 07, a retarget and a loss: out-band, then LOST with SPIN_LOST (+3). -/
theorem test_loss_detail : lostDetail (deviation 51700 1200) = 3 := by decide
theorem test_loss_bands : outsideLoss (deviation 51900 1200) = true ∧ withinLock (deviation 50400 1200) = true := by
  decide
theorem test_tachPulse_closes :
    ((run (.tachPulse 7142857) { ready with spindle := { spinning .locked with framing := .running 31 50000000 } }).spindle.lastPeriod,
      (run (.tachPulse 7142857) ready).spindle.framing) = (57142, .running 31 57142857) := by decide

/-! ## Positioner (08) -/

/-- 08, a seek across zone 1: step position 95 with PH3. -/
theorem test_seek_begins :
    ({ part.pos with state := .idle 47, phase := 2 } : Positioner).beginSeek 3 47 78 =
      ⟨.stepping 95 78, 3, true, none, some 3, none, 1, 0⟩ := by decide
/-- 08, LRST overtakes a seek: step position 115, the target becomes 58. -/
theorem test_lrst_shortens :
    ({ part.pos with state := .stepping 115 78 } : Positioner).linkReset.state = .stepping 115 58 := by decide
/-- 08, a lost step and a recalibration: limit 328. -/
theorem test_recal_limit : (tables []).recalLimit = 328 := by decide

/-! ## Requests and buffer (04, 05, 09) -/

/-- 09, frame exchange of a write: balance 7, pages 0 and 1 FILLING, CALL started. -/
theorem test_write_called :
    let t := run (.write 3 1000 2 0) part
    t.queue.credits = 7 ∧ t.arb.ho = some (.call 3) ∧
    t.buffer.pages.map (·.use) = [.filling 3 0, .filling 3 1, .free, .free] := by decide
/-- 04 R59: the last byte of the CALL starts the timer, data_timeout_s 5. -/
theorem test_call_sent :
    (run .callSent (run (.write 3 1000 2 0) part)).buffer.writes.map (·.timer) = [some 5] := by decide
/-- 04 R61: a BLOCK for a tag not in use is counted. -/
theorem test_block_discarded :
    (run (.block 9 0 (List.replicate 512 0)) part).buffer.discards = 1 := by decide +kernel
/-- 05 R71: NOT_CONFIGURED comes first. -/
theorem test_not_configured :
    (run (.read 5 0 0 9) bare).arb.ho = some (.done 5 ⟨.notConfigured, 0, 0, none, none⟩) := by decide
theorem test_lba_range : acceptanceCheck (tables []) (.read 2651 2 0) = some .lbaRange := by decide
theorem test_lba_last : acceptanceCheck (tables []) (.read 2651 1 0) = none := by decide

/-! ## Tables, events, status (10, 11) -/

/-- 10, configuring a new part: capacity 2652. -/
theorem test_capacity : (tables []).capacity = 2652 := by decide
/-- 10: the check word covers 112 bytes. -/
theorem test_image_length : (imageBytes 1 (worked [])).length = 112 := by decide
/-- 10, a RESET after growth: the image of a set and generation starts WARM with it. -/
theorem test_generation_wraps : nextGeneration 0xFFFF = 1 := by decide
/-- 11 R196: part number 0412h, revision 01h, CONFIGURED, WARM or COLD, generation 7, capacity 2652. -/
theorem test_status_head :
    (statusRecord part).take 9 = [0x04, 0x12, 0x01, 0x02, 0x02, 0x00, 0x07, 0x0A, 0x5C] := by decide
/-- 11, coalescing: the record of the kind counts 2 and keeps its place and detail. -/
theorem test_coalesce :
    coalesce [⟨.mapGrown, 1, 1000⟩] .mapGrown 2000 = [⟨.mapGrown, 2, 1000⟩] := by decide
/-- 11, an acknowledgement of another sequence: BAD_SEQ. -/
theorem test_badSeq :
    (run (.eventAck 0x40 7) part).arb.ho = some (.reply ⟨0x40, .badSeq⟩) := by decide

/-! ## States that meet the statements' hypotheses

One theorem per statement with hypotheses, with every clause and its boundary values. -/

/-- The part's NOTICE is on HO, so no other frame is started. -/
def busy (s : State) : State := { s with arb := { s.arb with ho := some (.notice coldNotice) } }

def writeOn (tag : Tag) (received : List Nat) (call : CallState) (timer : Option Nat) (s : State) : State :=
  { s with buffer := { s.buffer with writes := [⟨tag, received, call, timer⟩] } }

def paged (uses : List PageUse) (s : State) : State :=
  { s with buffer := { s.buffer with pages := uses.map fun u => ⟨u, [0, 0]⟩ } }

/-- Tag 3 waits for the second of its two blocks. -/
def awaitingData : State :=
  paged [.full 3 0, .filling 3 1, .free, .free]
    (writeOn 3 [0] .sent (some 5) (holding [record 3 (.write 1000 2 0) .awaitData] part))

/-- Tag 3 heads the page-wait FIFO. -/
def queued (req : Request) (uses : List PageUse) : State :=
  let s := paged uses (holding [record 3 req .awaitPages] part)
  { s with buffer := { s.buffer with fifo := [3] } }

def staged (id : TableId) (stage : Stage) (session : Option TableId) (s : State) : State :=
  { s with tables := { s.tables with staging := s.tables.staging.set id stage, session := session } }

def spun (sp : Spindle) (s : State) : State := { s with spindle := sp }
def posed (p : PosState) (step settle : Option Nat) (s : State) : State :=
  { s with pos := { s.pos with state := p, stepTimer := step, settleTimer := settle } }
def sending (f : OutFrame) (s : State) : State := { s with arb := { s.arb with ho := some f } }
def lined (l : Lines) (s : State) : State := { s with lines := l }
def eventing (queue : List EventRecord) (o : Option Outstanding) (timer : Option Nat) (s : State) : State :=
  { s with events := { s.events with queue := queue, outstanding := o, resendTimer := timer } }
def received (rx : Receiver) (s : State) : State := { s with link := { s.link with rx := rx } }
def classes (a : Arbiter) (s : State) : State := { s with arb := a }

def isNext (r : Result) : Bool :=
  match r with
  | .next _ => true
  | .fault _ | .refused _ => false

/-- In the last byte time of gap 2, its end waiting. -/
def gap2Waiting : State :=
  { active (op1000 write1000 .write .transfer) (.dataWrite sector1000 (.page 0) (.gap 40)) with
    pending := [.gap2End] }
def hunting (op : Op) (action : Action) : State := active op (.hunt sector1000 action)
def verifyHunt : Op := { op1000 verify1000 .discard .hunt with huntRevs := 2 }
def verifying : State := active (op1000 verify1000 .discard .transfer) (.dataRead sector1000 .discard)
def tracking (phase : TrackPhase) (flags : Byte) : State :=
  { active (op1000 (.format 47 1 flags) .trackWrite .trackWrite) (.trackWrite 47 1 1 phase) with
    pending := [.tachPulse 1562500] }

theorem witness_StepTakesFront : gap2Waiting.pending = [.gap2End] ∧ part.pending = [] := by decide

theorem witness_BalancedKept : Balanced gap2Waiting ∧ isNext (step gap2Waiting) = true := by
  refine ⟨⟨by decide, by decide, ?_⟩, by decide⟩
  intro op h; cases h; decide

theorem witness_EventsSoundKept : EventsSound gap2Waiting ∧ isNext (step gap2Waiting) = true :=
  ⟨⟨by decide, by decide, by decide⟩, by decide⟩

theorem witness_StoreSoundKept :
    StoreSound { State.reset with pending := [.wipe 0x10] } ∧
    isNext (step { State.reset with pending := [.wipe 0x10] }) = true :=
  ⟨⟨by decide, by decide, by decide⟩, by decide⟩

theorem witness_GateRaisedOnlyWhenAllowed :
    gap2Waiting.codec.wgate = false ∧ (after (step gap2Waiting)).codec.wgate = true ∧
    (tracking .waiting 0).codec.wgate = false ∧ (after (step (tracking .waiting 0))).codec.wgate = true := by decide

theorem witness_RequestFrameTaken :
    part.resetHeld = false ∧ 3 ∈ (holding [record 3 verify1000 .ready] part).queue.records.map (·.tag) ∧
    (let s := { part with queue := { part.queue with unsent := List.replicate 8 9 } };
      s.queue.credits ≤ s.queue.unsent.length) ∧
    part.accepts 3 ∧ acceptanceCheck part.tables (.verify 2651 2 0) = some .lbaRange ∧
    (∀ req ∈ [.verify 2651 1 0, .format 159 1 1, .reassign 2651, .recal, .spin 2, .read 0 16 0, .write 2636 16 1],
      acceptanceCheck part.tables req = none) :=
  ⟨by decide, by decide, by decide, ⟨by decide, by decide, by decide⟩, by decide, by decide⟩

theorem witness_DataTimeoutEnds :
    (awaitingData.queue.records.find? (·.tag == 3)).map (·.state) = some .awaitData ∧
    (awaitingData.buffer.writes.find? (·.tag == 3)).map (·.timer.isSome) = some true := by decide

theorem witness_GrantDecision :
    part.buffer.fifo = [] ∧
    (∀ s ∈ [queued (.write 1000 4 0) [.free, .free, .free, .full 9 0], queued (.write 1000 4 0) (List.replicate 4 .free),
      queued (.read 1000 4 0) (List.replicate 4 .free)], s.buffer.fifo = [3] ∧ (s.queue.find 3).isSome = true) ∧
    (queued (.write 1000 4 0) [.free, .free, .free, .full 9 0]).buffer.freePages.length = 3 ∧
    (queued (.read 1000 4 0) (List.replicate 4 .free)).buffer.freePages.length = 4 ∧
    part.buffer.pages[3]? = some ⟨.free, [0, 0]⟩ := by decide

theorem witness_BlockTaken :
    awaitingData.resetHeld = false ∧ (List.replicate 512 (0 : Byte)).length = 512 ∧
    (awaitingData.queue.find 3).map (fun r => (r.state, r.req.blocks)) = some (.awaitData, 2) ∧
    (awaitingData.buffer.writeOf 3).map (·.received) = some [0] ∧ awaitingData.buffer.pageOf 3 1 = some 1 ∧
    part.queue.find 3 = none := by
  refine ⟨by decide, by decide +kernel, by decide, by decide, by decide, by decide⟩

/-- The state the engine begins a chosen request from. -/
def selected (r : Record) (older : List Tag) (s : State) : State :=
  s.setQueue { s.queue with records := s.queue.records.map fun x =>
    if x.tag = r.tag then { x with state := .active }
    else if x.tag ∈ older then { x with passCount := min 255 (x.passCount + 1) } else x }

/-- LBA 1000 under the head, passing over an older request; and a SPIN DOWN in STOPPED, which ends as it begins. -/
theorem witness_SelectionBegins :
    gateUp.engine.op.isSome = true ∧ eligibleFrom [] part.queue.records = [] ∧
    (let far := record 3 (.verify 1559 1 0) .ready;
      let near := record 4 verify1000 .ready;
      let s := holding [far, near] ready;
      s.engine.op = none ∧ s.pos.state = .idle 47 ∧ eligibleFrom [] s.queue.records = [far] ++ near :: [] ∧
      choose s.tables 47 s.queue.direction [far, near] = some (near, .inward) ∧
      (beginOp 4 verify1000 (selected near [3] s)).engine.op.isSome = true) ∧
    (let down := record 3 (.spin 2) .ready;
      let s := holding [down, record 4 .recal .ready] part;
      s.pos.state = .unknown ∧ eligibleFrom [] s.queue.records = [] ++ down :: [] ∧
      choose s.tables 0 s.queue.direction [down] = some (down, .inward) ∧
      (beginOp 3 (.spin 2) (selected down [] s)).engine.op = none) := by decide

theorem witness_ChoiceAmongEligible :
    (⟨4, verify1000, .ready, 8, none⟩ : Record).passCount = 8 ∧
    (∀ o ∈ [(⟨3, verify1000, .ready, 7, none⟩ : Record)], o.passCount < 8) ∧
    Request.recal.isBarrier = true ∧ verify1000.isBarrier = false ∧
    choose (tables []) 47 .inward [record 3 (.verify 1559 1 0) .ready, record 4 verify1000 .ready] =
      some (record 4 verify1000 .ready, .inward) ∧
    choose (tables []) 48 .inward [record 4 verify1000 .ready] = some (record 4 verify1000 .ready, .outward) := by decide

/-- The worked zones, every one with WRITE_LOCK. -/
def writeLocked : State :=
  { ready with
    tables := Tables.cold.install { worked [] with zones := zones.map fun z => { z with writeLock := true } } 7 }

/-- The head there, inward, outward, unknown and moving; each state of the spindle with the zone's speed or another; a
zone with and without WRITE_LOCK, the sense active and not; zone 1 is the first that holds cylinder 47. -/
theorem witness_AccessOpens :
    ready.tables.placement 1000 = home1000 ∧ ready.codec.mode = .idle ∧ ready.pins.wprot = false ∧
    (writeLocked.tables.placement 1000).writeLock = true ∧ ((writeLocked.tables.zones[1]?).map (·.writeLock)) = some true ∧
    ({ ready with pins := ⟨true, true⟩ } : State).pins.wprot = true ∧ write1000.isWrite = true ∧
    ready.tables.zones[1]? = some ⟨40, 40, 1050, 9, 16, 1, false⟩ ∧ (40 ≤ 47 ∧ 47 ≤ 40 + 40 - 1) ∧
    (∀ j y, j < 1 → ready.tables.zones[j]? = some y → ¬ (y.firstCyl ≤ 47 ∧ 47 ≤ y.firstCyl + y.cylCount - 1)) ∧
    PositionAsked ready 47 ready.pos false ∧ (∃ p, PositionAsked ready 48 p true) ∧ (∃ p, PositionAsked ready 46 p true) ∧
    (∃ p, PositionAsked part 47 p true) ∧ (∃ p, PositionAsked (posed (.settling 3 false) none none part) 47 p true) ∧
    (∃ p, SpeedAsked ready.tables 1050 1 ready.spindle p false) ∧
    (∀ st : SpinState, ∃ p, SpeedAsked ready.tables 900 0 (spinning st) p true) ∧
    (∃ p, SpeedAsked ready.tables 1050 1 (spinning .lost) p true) :=
  ⟨by decide, by decide, by decide, by decide, by decide, by decide, by decide, by decide, by decide,
    (by
      intro j y hj h
      obtain rfl : j = 0 := by omega
      cases h
      decide),
    .there (by decide), ⟨_, .inward 47 (by decide) (by decide)⟩,
    ⟨_, .outward 47 (by decide) (by decide)⟩, ⟨_, .unknown (by decide)⟩,
    ⟨_, .moving (by decide) (by intro c h; cases h)⟩, ⟨_, .locked (by decide) (by decide)⟩,
    (by
      intro st
      cases st
      · exact ⟨_, .rest (.inl rfl)⟩
      · exact ⟨_, .climbing rfl⟩
      · exact ⟨_, .other (.inl rfl) (by decide)⟩
      · exact ⟨_, .other (.inr (.inl rfl)) (by decide)⟩
      · exact ⟨_, .other (.inr (.inr rfl)) (by decide)⟩
      · exact ⟨_, .rest (.inr rfl)⟩),
    ⟨_, .same (.inr rfl) (by decide)⟩⟩

/-- SPIN UP before configuration, with the position unknown, over cylinder 47, and over cylinder 161 of 160. -/
theorem witness_SpinAndRecalBegin :
    part.pos.state = .unknown ∧ ready.pos.state = .idle 47 ∧ ready.spindle.state = .locked ∧
    (spun (spinning .stopping) part).spindle.state = .stopping ∧ part.spindle.state = .stopped ∧
    SpinUpAsks bare 600 0 ∧ SpinUpAsks part 900 0 ∧ SpinUpAsks ready 1050 1 ∧
    SpinUpAsks (posed (.idle 161) none none part) 1500 3 :=
  ⟨by decide, by decide, by decide, by decide, by decide, .unconfigured (by decide),
    .unknown (worked []) ⟨0, 40, 900, 11, 16, 1, false⟩ (by decide) (by decide) (by decide),
    .within (worked []) 1 ⟨40, 40, 1050, 9, 16, 1, false⟩ (by decide) (by decide) (by decide) (by decide) (by decide),
    .beyond (worked []) 3 ⟨120, 40, 1500, 6, 16, 1, false⟩ (by decide) (by decide) (by decide) (by decide) (by decide)⟩

def fourReplies : State := classes { Arbiter.reset with replies := List.replicate 4 ⟨0x50, .ok⟩ } part

theorem witness_ManagementOverrun :
    managementFrame (.eventAck 0x54 7) = true ∧ (Instr.eventAck 0x54 7).wellFormed = true ∧
    fourReplies.resetHeld = false ∧ 4 ≤ fourReplies.arb.replies.length := by decide

theorem witness_LoadOpenAndDrop :
    part.routes ∧ TableId.ofByte 0 = none ∧ TableId.ofByte 5 = none ∧ TableId.ofByte 1 = some .device ∧
    TableId.ofByte 4 = some .defect ∧ part.tables.session = none ∧
    (staged .zone ⟨.loading, []⟩ (some .zone) part).tables.session = some .zone :=
  ⟨⟨by decide, by decide⟩, by decide, by decide, by decide, by decide, by decide, by decide⟩

/-- CODE with 63 entries: one more fits, two do not; a ZONE payload of 6 bytes is no whole entry. -/
theorem witness_LoadPutAppends :
    part.routes ∧ part.tables.session = none ∧
    (let s := staged .code ⟨.loading, List.replicate 63 [0x92]⟩ (some .code) part;
      s.tables.session = some .code ∧ (s.tables.staging.get .code).entries.length + 1 ≤ TableId.code.capacity ∧
      TableId.code.capacity < (s.tables.staging.get .code).entries.length + 2) ∧
    6 % TableId.zone.entrySize ≠ 0 ∧ 32 < 33 / TableId.code.entrySize ∧
    (staged .defect ⟨.stale, []⟩ (some .defect) part).tables.staging.defect.state = .stale :=
  ⟨⟨by decide, by decide⟩, by decide, by decide, by decide, by decide, by decide⟩

theorem witness_LoadCloseJudges :
    part.routes ∧ part.tables.session = none ∧
    (staged .device ⟨.loading, [device.bytes]⟩ (some .device) part).tables.session = some .device ∧
    checkTable .device [device.bytes] = none ∧ checkTable .device [] = some ⟨.tooFew, 0⟩ ∧
    checkTable .defect [] = none ∧
    ((staged .defect ⟨.stale, []⟩ (some .defect) part).tables.staging.get .defect).state = .stale :=
  ⟨⟨by decide, by decide⟩, by decide, by decide, by decide, by decide, by decide, by decide⟩

/-- The worked tables pass; each refusal of a zone, a code and a defect entry is met. -/
theorem witness_TableChecksAlone :
    checkTable .zone (zones.map Zone.bytes) = none ∧
    checkTable .zone [⟨0, 1, 900, 11, 16, 0, false⟩ |> Zone.bytes] = some ⟨.field, 0⟩ ∧
    checkTable .zone [⟨1, 40, 900, 11, 16, 1, false⟩ |> Zone.bytes] = some ⟨.order, 0⟩ ∧
    checkTable .code (refCode.map fun b => [b]) = none ∧
    checkTable .code (([0xEB] :: refCode.map fun b => [b]).take 64) = some ⟨.field, 0⟩ ∧
    checkTable .code ((refCode.take 63 ++ [0x92]).map fun b => [b]) = some ⟨.duplicate, 63⟩ ∧
    checkTable .defect (startMap.map Defect.bytes) = none ∧
    checkTable .defect [[3, 1, 0, 0, 0, 0]] = some ⟨.field, 0⟩ ∧
    checkTable .defect [Defect.bytes (.remap 212 0 .loaded), Defect.bytes (.remap 212 1 .loaded)] =
      some ⟨.duplicate, 1⟩ ∧
    checkTable .defect (startMap.map Defect.bytes).reverse = some ⟨.order, 1⟩ := by decide

theorem witness_SetChecksTogether :
    checkSet (worked startMap) = none ∧
    checkSet ⟨{ device with cylinders := 161 }, zones, refCode, []⟩ = some ⟨.geometry, 3⟩ ∧
    checkSet ⟨{ device with cellCode := 0 }, zones, refCode, []⟩ = some ⟨.budget, 0⟩ ∧
    checkSet (worked [.remap 212 22 .loaded]) = some ⟨.geometry, 0⟩ ∧
    checkSet (worked [.remap 212 0 .loaded, .retire 0 0 .loaded]) = some ⟨.duplicate, 1⟩ := by decide

theorem witness_SlotStatesFollowMap :
    zoneOfLba (deriveZones zones) 212 = some 0 ∧ ((deriveZones zones)[2]?).map (·.spareSlots) = some 16 := by decide

/-- A device record staged over the worked tables, and one whose cylinders the zones do not cover. -/
def committing (d : Device) : State := staged .device ⟨.valid, [d.bytes]⟩ none part

/-- CODE and DEFECT REJECTED: CODE, the lower id, answers. -/
def twiceRejected : State :=
  staged .defect ⟨.rejected ⟨.order, 1⟩, []⟩ none (staged .code ⟨.rejected ⟨.tooMany, 64⟩, []⟩ none part)

theorem witness_CommitInstalls :
    part.routes ∧ gateUp.queue.records ≠ [] ∧ part.queue.records = [] ∧ part.tables.session = none ∧
    (staged .zone ⟨.loading, []⟩ (some .zone) part).tables.session.isSome = true ∧
    (staged .defect ⟨.stale, []⟩ none part).tables.staging.defect.state = .stale ∧
    (∀ id, (twiceRejected.tables.staging.get id).state = match id with
      | .device | .zone => .empty
      | .code => .rejected ⟨.tooMany, 64⟩
      | .defect => .rejected ⟨.order, 1⟩) ∧
    (∀ id, (bare.tables.staging.get id).state = .empty ∧ (part.tables.staging.get id).state = .empty) ∧
    bare.tables.active = none ∧ part.tables.active = some (worked []) ∧
    (∀ d, ((committing d).tables.staging.get .device).state = .valid) ∧ Device.ofBytes device.bytes = device ∧
    checkSet (worked []) = none ∧ checkSet { worked [] with device := { device with cylinders := 161 } } ≠ none ∧
    ((staged .zone ⟨.valid, zones.map Zone.bytes⟩ none part).tables.staging.get .zone).state = .valid ∧
    (zones.map Zone.bytes).map Zone.ofBytes = zones :=
  ⟨⟨by decide, by decide⟩, by decide, by decide, by decide, by decide, by decide,
    (by intro id; cases id <;> decide), (by intro id; cases id <;> decide), by decide, by decide, fun _ => rfl,
    by decide, by decide, by decide, by decide, by decide⟩

theorem witness_TableGetAndWipe :
    part.routes ∧ TableId.ofByte 5 = none ∧ TableId.ofByte 3 = some .code ∧ bare.routes ∧
    bare.tables.active = none ∧ part.tables.active = some (worked []) ∧ gateUp.queue.records ≠ [] ∧
    part.queue.records = [] :=
  ⟨⟨by decide, by decide⟩, by decide, by decide, ⟨by decide, by decide⟩, by decide, by decide, by decide, by decide⟩

theorem witness_QueryAnswers :
    part.routes ∧ 1 < (2 : Byte).toNat ∧ 1 < (0xFF : Byte).toNat ∧ ¬ 1 < (1 : Byte).toNat ∧
    part.spindle.target = none ∧ ready.spindle.target = some ⟨1050, 1⟩ ∧ part.spindle.lastPeriod = 0 :=
  ⟨⟨by decide, by decide⟩, by decide, by decide, by decide, by decide, by decide, by decide⟩

def ackWait : State :=
  eventing [⟨.mapGrown, 1, 1000⟩, ⟨.sparesLow, 1, 1⟩] (some ⟨7, .sent⟩) (some 2) part

theorem witness_EventSetMasks :
    ackWait.routes ∧ 0x0800 ≤ (0x0800 : BitVec 16).toNat ∧ (0x07FF : BitVec 16).toNat < 0x0800 ∧
    ackWait.events.outstanding = some ⟨7, .sent⟩ ∧
    ackWait.events.queue = [⟨.mapGrown, 1, 1000⟩, ⟨.sparesLow, 1, 1⟩] ∧ part.events.outstanding = none :=
  ⟨⟨by decide, by decide⟩, by decide, by decide, by decide, by decide, by decide⟩

theorem witness_AbortEnds :
    gateUp.routes ∧ part.queue.find 3 = none ∧ (gateUp.queue.find 3).map (·.state) = some .active ∧
    gateUp.engine.op.isSome = true ∧
    ((queued (.write 1000 4 0) []).queue.find 3).map (·.state) = some .awaitPages ∧
    (awaitingData.queue.find 3).map (·.state) = some .awaitData ∧
    ((holding [record 3 verify1000 .ready] part).queue.find 3).map (·.state) = some .ready :=
  ⟨⟨by decide, by decide⟩, by decide, by decide, by decide, by decide, by decide, by decide⟩

/-- LEN 2 and 522 are taken, 1 and 523 are not; the last byte of a RECAL's frame with a bad check, and one of kind 41h
with a good check. -/
theorem witness_ReceiverStates :
    part.link.lane = none ∧ part.resetHeld = false ∧ (lined ⟨true, false, none⟩ part).resetHeld = true ∧
    part.link.rx = .hunt ∧ (received (.header none) part).link.rx = .header none ∧
    (received (.header (some 2)) part).link.rx = .header (some 2) ∧
    (2 ≤ 0 * 256 + 2 ∧ 2 * 256 + 10 ≤ 522 ∧ 0 * 256 + 1 < 2 ∧ 522 < 2 * 256 + 11) ∧
    (received (.body 2 [0x06, 0x06, 0x00]) part).link.rx = .body 2 [0x06, 0x06, 0x00] ∧
    crc16 (be16 2 ++ [0x06, 0x06]) ≠ beNat [0x00, 0x00] ∧ crc16 (be16 2 ++ [0x41, 0x06]) = beNat [0xB4, 0x9B] := by
  decide

theorem witness_LaneBytesDeliverTheFrame :
    (Instr.recal 6).wellFormed = true ∧ (laneBytes (.recal 6)).map (·.length) = some 7 ∧ part.resetHeld = false ∧
    part.link.rx = .hunt ∧ part.link.lane = none := by decide

theorem witness_FrameDecodesToItself :
    (Instr.read 5 300 4 0).wellFormed = true ∧
    encodeFrame (.read 5 300 4 0) = some (0x01, 0x05, [0x00, 0x01, 0x2C, 0x04, 0x00]) := by decide

theorem witness_ArbiterChoice :
    (busy part).arb.ho.isSome = true ∧ part.resetHeld = false ∧ part.arb.ho = none ∧
    (classes { Arbiter.reset with notice := some coldNotice } part).arb.notice = some coldNotice ∧
    fourReplies.arb.notice = none ∧ fourReplies.arb.replies ≠ [] ∧ part.arb.replies = [] ∧
    (classes { Arbiter.reset with doneCall := [.done 3 (endedEarly .aborted)] } part).arb.doneCall ≠ [] ∧
    (classes { Arbiter.reset with doneCall := [.call 3] } part).arb.doneCall = [.call 3] ∧
    (let s := classes { Arbiter.reset with blocks := [1] } (paged [.free, .full 3 0] part);
      s.arb.doneCall = [] ∧ s.arb.blocks = [1] ∧ s.buffer.pages[1]? = some ⟨.full 3 0, [0, 0]⟩) ∧
    (eventing [⟨.mapGrown, 1, 1000⟩] (some ⟨7, .offered⟩) none part).events.outstanding = some ⟨7, .offered⟩ ∧
    part.arb.blocks = [] ∧ part.events.outstanding = none := by decide

/-- The last page of a READ with its end report, and a page of one that has another. -/
def draining (uses : List PageUse) : State :=
  let s := sending (.block 3 0 [0, 0] 1)
    (paged uses (holding [⟨3, read1000, .active, 0, some (endedEarly .dataError)⟩] part))
  { s with engine := { s.engine with op := some (op1000 read1000 .read .drain) } }

def sentPage (s : State) : State :=
  grant (s.setBuffer { s.buffer with pages := modifyAt s.buffer.pages 1 fun q => { q with use := .free } })

theorem witness_LastByteReports :
    (busy part).arb.ho = some (.notice coldNotice) ∧
    (sending (.reply ⟨0x50, .ok⟩) fourReplies).arb.ho = some (.reply ⟨0x50, .ok⟩) ∧
    (sending (.done 3 (endedEarly .aborted)) part).arb.ho = some (.done 3 (endedEarly .aborted)) ∧
    (sending (.call 3) (writeOn 3 [] .sending none awaitingData)).arb.ho = some (.call 3) ∧
    ∀ uses ∈ [[.free, .sending 3 0], [.full 3 1, .sending 3 0]],
      (draining uses).arb.ho = some (.block 3 0 [0, 0] 1) ∧
      ((sentPage (draining uses)).queue.find 3).bind (·.endReport) = some (endedEarly .dataError) ∧
      ((sentPage (draining uses)).buffer.ownedBy 3 = [] ↔ uses = [.free, .sending 3 0]) := by decide

theorem witness_OutputSignals :
    part.arb.ho = none ∧ (busy part).arb.ho = some (.notice coldNotice) ∧
    (OutFrame.notice coldNotice).bytes[0]? = some 0xC3 ∧ part.codec.wgate = false ∧ gateUp.codec.wgate = true ∧
    gateUp.codec.wdata[2]? = some 0xCB ∧ gateUp.codec.wdata[3]? = none ∧ refCode.length = 64 ∧
    (List.replicate 512 (0 : Byte)).length = 512 :=
  ⟨by decide, by decide, by decide, by decide, by decide, by decide, by decide, by decide, List.length_replicate⟩

theorem witness_EventRaised :
    (let s := { part with events := { part.events with mask := 0x07FE } };
      s.events.mask.getLsbD (EventKind.spinLocked.code - 1) = false) ∧
    part.events.mask.getLsbD (EventKind.spinLocked.code - 1) = true ∧
    part.events.mask.getLsbD (EventKind.tablesCommitted.code - 1) = true ∧ part.events.outstanding = none ∧
    ackWait.events.outstanding = some ⟨7, .sent⟩ := by decide

def eventOut (o : Outstanding) : State :=
  sending (.event 7 .mapGrown 1 1000) (eventing [⟨.mapGrown, 1, 1000⟩] (some o) none part)

theorem witness_EventAckAndResend :
    ackWait.routes ∧ ackWait.events.outstanding = some ⟨7, .sent⟩ ∧
    (∀ frame, ackWait.events.outstanding ≠ some ⟨6, frame⟩) ∧
    (eventOut ⟨7, .sending⟩).arb.ho = some (.event 7 .mapGrown 1 1000) ∧
    (eventOut ⟨7, .sending⟩).events.outstanding = some ⟨7, .sending⟩ ∧
    (eventOut ⟨8, .offered⟩).events.outstanding ≠ some ⟨7, .sending⟩ ∧
    ackWait.events.resendTimer.isSome = true :=
  ⟨⟨by decide, by decide⟩, by decide, by intro frame; cases frame <;> decide, by decide, by decide, by decide,
    by decide⟩

/-- At the 32nd pulse, with a revolution closed and an operation that hunts. -/
def closing (p : Spindle) : State :=
  spun { p with framing := .running 31 50000000 } (hunting verifyHunt .discard)

/-- Revolutions of 57142 microseconds at 1050 rpm, one 3 % slower and one more than 3 % slower; the second outside loss
in LOCKED and the fourth inside lock in RETARGETING and STARTING, with an engine that hunts and one that waits. -/
theorem witness_TachPulseFrames :
    ready.codec.mode.noTrack = true ∧ ready.engine.op = none ∧ part.spindle.state = .stopped ∧
    (spun (spinning .stopping) part).spindle.state = .stopping ∧ ready.spindle.framing = .running 30 50000000 ∧
    ({ spinning .starting with framing := .waiting } : Spindle).framing = .waiting ∧
    (deviation 58857 1050).natAbs ≤ 1800000 ∧ 1800000 < (deviation 58858 1050).natAbs ∧
    (deviation 57714 1050).natAbs ≤ 600000 ∧ 600000 < (deviation 57715 1050).natAbs ∧
    (spinning .lost).inBand < 3 ∧ (spinning .locked).outBand = 0 ∧
    (let s := closing { spinning .locked with outBand := 1 };
      s.codec.mode.noTrack = true ∧ s.spindle.state = .locked ∧ s.spindle.framing = .running 31 50000000 ∧
      1 ≤ s.spindle.outBand ∧ s.engine.op = some verifyHunt ∧ verifyHunt.stage ≠ .drain ∧ s.codec.mode ≠ .idle) ∧
    (let s := closing { spinning .retargeting with inBand := 3 };
      s.spindle.state = .retargeting ∧ s.spindle.inBand = 3 ∧ s.engine.op = some verifyHunt ∧
      verifyHunt.awaitingRelock = false) ∧
    (let op := { Op.begin 3 (.spin 1) with stage := .spinWait, target := home1000.target };
      let s := spun { spinning .starting with framing := .running 31 50000000, inBand := 3 } (active op .idle);
      s.spindle.state = .starting ∧ s.spindle.inBand = 3 ∧ s.engine.op = some op ∧ op.stage = .spinWait ∧
      s.spindle.rpm = op.target.rpm) := by decide

theorem witness_LockGainedAndLost :
    (spun (spinning .starting) part).engine.op = none ∧ (spinning .starting).state = .starting ∧
    ready.spindle.state = .locked ∧ ready.codec.mode = .idle ∧
    (active (op1000 verify1000 .discard .positionSpeed) .idle).engine.op =
      some (op1000 verify1000 .discard .positionSpeed) ∧
    gateUp.engine.op = some (op1000 write1000 .write .transfer) ∧
    gateUp.codec.mode = .dataWrite sector1000 (.page 0) (.sending 0 0xFFFF) ∧ gateUp.spindle.state = .locked ∧
    (∀ op ∈ [{ op1000 verify1000 .discard .hunt with awaitingRelock := true },
        { op1000 (.format 47 1 0) .trackWrite .trackWrite with awaitingRelock := true }],
      let s := spun (spinning .lost) (active op .idle)
      s.engine.op = some op ∧ s.codec.mode = .idle ∧ s.spindle.state = .lost ∧ s.spindle.rpm = op.target.rpm) ∧
    (∀ mode, verify1000 ≠ .spin mode) ∧ ∀ mode, Request.format 47 1 0 ≠ .spin mode :=
  ⟨by decide, by decide, by decide, by decide, by decide, by decide, by decide, by decide, by decide, nofun, nofun⟩

/-- An operation that waits for its speed, a SPIN UP and a SPIN DOWN that wait. -/
theorem witness_SpindleTimers :
    part.engine.op = none ∧
    (let p := { spinning .starting with spinupTimer := some 5 };
      p.state = .starting ∧ p.spinupTimer.isSome = true) ∧
    (let p := { spinning .lost with retargetTimer := some 3 };
      p.state = .lost ∧ p.retargetTimer.isSome = true) ∧
    (∀ req ∈ [verify1000, read1000],
      let op := { op1000 req .discard .positionSpeed with speedOpen := true };
      op.req = req ∧ op.stage = .positionSpeed ∧ op.speedOpen = true ∧ op.awaitingRelock = false) ∧
    (let op := { op1000 read1000 .read .hunt with awaitingRelock := true };
      op.req = read1000 ∧ op.stage ≠ .drain ∧ op.awaitingRelock = true) ∧
    (let op := { Op.begin 3 (.spin 1) with stage := .spinWait }; op.stage = .spinWait ∧ op.req = .spin 1) ∧
    (let p := { spinning .stopping with silenceTimer := true, stopCause := some .idle };
      p.state = .stopping ∧ p.silenceTimer = true ∧ p.stopCause = some .idle) ∧
    (let op := { Op.begin 3 (.spin 2) with stage := .spinWait };
      op.req = .spin 2 ∧ op.stage = .spinWait ∧ (2 : Byte) ≠ 1) ∧
    (let s := { active { Op.begin 3 .recal with stage := .recalibrate } .idle with
        spindle := { spinning .starting with spinupTimer := some 5 } };
      s.engine.op.map (fun op => (op.req, op.stage, op.awaitingRelock)) = some (.recal, .recalibrate, false)) ∧
    (op1000 read1000 .read .drain).stage = .drain ∧
    ready.queue.records = [] ∧ ready.spindle.state = .locked ∧ ready.tables.idleS ≠ 0 := by decide

/-- The recalibration of a RECAL, and of a block whose position is sought. -/
def recalOp : Op := { Op.begin 3 .recal with stage := .recalibrate }
def seekOp : Op := { op1000 verify1000 .discard .positionSpeed with posOpen := true }

/-- Step positions 155, 156 and 157 of a seek to cylinder 78; a recalibration at 327 and at its limit of 328 steps. -/
theorem witness_StepTimerMoves :
    part.engine.op = none ∧
    (∀ x ∈ [155, 156, 157], (posed (.stepping x 78) (some 3) none part).pos.stepTimer.isSome = true) ∧
    155 < 2 * 78 ∧ 156 = 2 * 78 ∧ 2 * 78 < 157 ∧
    (posed (.recalibrating 327 255 328) (some 3) none part).pos.state = .recalibrating 327 255 328 ∧
    (posed (.recalibrating 328 255 328) (some 3) none part).pos.held = none ∧
    recalOp.stage = .recalibrate ∧ seekOp.stage = .positionSpeed ∧ seekOp.posOpen = true ∧ seekOp.faultCount = 0 ∧
    ({ Op.begin 3 (.spin 1) with stage := .spinWait } : Op).stage = .spinWait ∧
    ({ seekOp with faultCount := 1 } : Op).faultCount ≠ 0 ∧ (active seekOp .idle).codec.mode = .idle ∧
    (∀ held ∈ [HeldRequest.seek 47, .recalibrate],
      ({ part.pos with held := some held } : Positioner).held = some held) := by decide

theorem witness_SettleTimerArrives :
    (posed (.settling 78 false) none (some 15) part).pos.settleTimer.isSome = true ∧
    (posed (.settling 78 false) none (some 15) part).pos.held = none ∧
    (posed (.settling 78 false) none (some 15) part).engine.op = none ∧
    ((78 = 0 ↔ false = true) ∧ (0 = 0 ↔ true = true) ∧ ¬ (78 = 0 ↔ true = true) ∧ ¬ (0 = 0 ↔ false = true)) ∧
    (recalOp.req = .recal ∧ recalOp.stage = .recalibrate) ∧
    (let s := posed (.settling 47 false) none (some 15) (active (op1000 read1000 .read .drain) .idle);
      s.engine.op = some (op1000 read1000 .read .drain) ∧ (op1000 read1000 .read .drain).posOpen = false) ∧
    (let s := posed (.settling 47 false) none (some 15) (active seekOp .idle);
      s.engine.op = some seekOp ∧ seekOp.speedOpen = false ∧ seekOp.target.cylinder = 47 ∧ s.codec.mode = .idle ∧
      seekOp.purpose = .discard ∧ seekOp.faultCount = 0 ∧ 0 < seekOp.target.cylinder) ∧
    (∀ held ∈ [HeldRequest.seek 78, .seek 79, .seek 77, .recalibrate],
      ({ part.pos with held := some held } : Positioner).held = some held) := by decide

/-- A field whose last code byte has been taken: its TRAILER follows. -/
def atTrailer (count : Nat) (payload : List Byte) (crc : BitVec 16) : Reader :=
  ⟨0, 0, some ⟨[], count, [], payload, crc⟩⟩

def trailerBits : List Bool := byteBits 0xEB

def readerOn (r : Reader) (s : State) : State := s.setReader r

/-- An address payload of the worked zone 1, with its check bytes. -/
def addressReader (id : SectorId) : Reader :=
  atTrailer 8 (id.covered ++ be16 (crc16 id.covered)) (BitVec.ofNat 16 (crc16 id.covered))

/-- The armed sector, its neighbour, the other head, a field that slips, one whose check is wrong, one not yet ended. -/
theorem witness_AddressFieldActs :
    (hunting verifyHunt .discard).codec.mode = .hunt sector1000 .discard ∧
    (hunting verifyHunt .discard).engine.op = some verifyHunt ∧ verifyHunt.stage ≠ .drain ∧
    (hunting verifyHunt .discard).pos.state = .idle 47 ∧ verifyHunt.faultCount = 0 ∧
    sector1000.cylinder = verifyHunt.target.cylinder ∧ sector1000.head = verifyHunt.target.head ∧
    (∀ id ∈ [sector1000, ⟨47, 1, 8, 1⟩, ⟨47, 0, 7, 1⟩],
      readAddress (tables []).inverse (addressReader id) trailerBits = .good id) ∧
    readAddress (tables []).inverse (addressReader sector1000) [false] = .fault ∧
    readAddress (tables []).inverse (atTrailer 8 [47, 1, 7, 1, 0, 0] 1) trailerBits = .badCheck ∧
    readAddress (tables []).inverse .clear [true] = .more ⟨1, 0, none⟩ := by decide

/-- With read_retries 2, pass 2 of 3 and pass 3 of 3; hunt_revs 2 reached and not reached. -/
theorem witness_HuntTimeoutFailsPass :
    (hunting verifyHunt .discard).engine.op = some verifyHunt ∧
    (hunting verifyHunt .discard).tables.huntRevs ≤ verifyHunt.huntRevs ∧
    (op1000 verify1000 .discard .hunt).huntRevs < (hunting verifyHunt .discard).tables.huntRevs ∧
    verifyHunt.pass < 1 + (hunting verifyHunt .discard).tables.readRetries ∧
    1 + (hunting verifyHunt .discard).tables.readRetries ≤ ({ verifyHunt with pass := 3 } : Op).pass ∧
    verifyHunt.purpose = .discard ∧ verifyHunt.req = verify1000 ∧
    (let op := { op1000 write1000 .write .hunt with huntRevs := 2 };
      (hunting op (.write (.page 0))).engine.op = some op ∧ op.purpose = .write ∧ op.req = write1000 ∧
      op.pass < 1 + (hunting op (.write (.page 0))).tables.writeRetries) ∧
    verifying.codec.mode = .dataRead sector1000 .discard ∧
    verifying.engine.op = some (op1000 verify1000 .discard .transfer) := by decide

def zeros : List Byte := List.replicate 512 0

/-- The whole field of 512 zero bytes with its check, and with another one. -/
def zeroReader (crcOk : Bool) : Reader := atTrailer 686 (zeros ++ [0x16, 0x34]) (if crcOk then 0x1634 else 0)

/-- The CRC of 512 zero bytes, by the rule of 01 R6. -/
theorem test_crc16_zeros : crc16 zeros = 0x1634 := by decide +kernel

/-- A field of zeros and one that ends with another byte, under each action that reads. -/
theorem witness_DataFieldReadEnds :
    (∀ ok, readData (tables []).inverse (zeroReader ok) trailerBits = .whole zeros ok) ∧ zeros.length = 512 ∧
    verifying.codec.mode = .dataRead sector1000 .discard ∧
    (op1000 verify1000 .discard .transfer).cursor + 1 = (op1000 verify1000 .discard .transfer).req.blocks ∧
    (op1000 write1000 .compare .verify).purpose = .compare ∧ (op1000 write1000 .compare .verify).chain = none ∧
    gateUp.refData .zeros = zeros ∧
    (let s := busy (paged [.free, .filling 3 0, .filling 3 1]
        (active (op1000 read1000 .read .transfer) (.dataRead sector1000 (.read 1))));
      s.buffer.pageOf 3 0 = some 1 ∧ s.arb.ho.isSome = true ∧ 0 + 1 < (2 : Byte).toNat ∧
      (s.queue.find 3).isSome = true) ∧
    ({ op1000 read1000 .read .transfer with cursor := 1 } : Op).cursor + 1 = (2 : Byte).toNat ∧
    (∀ pending, ({ op1000 (.verify 1000 2 0) .discard .transfer with abortPending := pending } : Op).cursor + 1 <
      (Request.verify 1000 2 0).blocks) :=
  ⟨by decide +kernel, by decide +kernel, by decide, by decide, by decide, by decide, by decide +kernel, by decide,
    by decide, by decide⟩

/-- No mark in time, no mark in the bits, a fault after two bytes, a bad CRC, a byte that differs; a field that goes
on; and passes within the budget and beyond it. -/
theorem witness_DataFieldReadFails :
    FieldFails verifying .discard .dataMarkTimeout [] 1 ∧
    FieldFails (readerOn ⟨0, 127, none⟩ verifying) .discard (.dataReadEnd [true]) [] 1 ∧
    FieldFails (readerOn (atTrailer 2 [7, 8] 0) verifying) .discard (.dataReadEnd [false]) [7, 8] 1 ∧
    FieldFails (readerOn (atTrailer 686 [7, 8] 1) verifying) .discard (.dataReadEnd trailerBits) [7, 8] 0 ∧
    FieldFails (readerOn (atTrailer 686 [7, 8] 0) gateUp) (.compare (.page 0)) (.dataReadEnd trailerBits) [7, 8] 0 ∧
    readData (tables []).inverse (atTrailer 2 [7, 8] 0) [true] = .more ⟨0, 0, some ⟨[true], 2, [], [7, 8], 0⟩⟩ ∧
    (op1000 read1000 .read .transfer).pass < 1 + (tables []).readRetries ∧
    1 + (tables []).readRetries ≤ ({ op1000 read1000 .read .transfer with pass := 3 } : Op).pass ∧
    (op1000 write1000 .compare .verify).pass < 1 + (tables []).writeRetries :=
  ⟨.markTimeout (by decide), .noMark [true] (by decide), .decodeFault [false] _ (by decide),
    .badCheck trailerBits _ (by decide), .differs trailerBits _ (.page 0) (by decide) rfl (by decide), by decide,
    by decide, by decide, by decide⟩

/-- 01 R14 step 3, 04 R62: bytes decoded before the end of the read stand in its page. -/
theorem test_partial_read :
    let s := readerOn ⟨0, 0, some ⟨[true, false, false, true, false, false, true], 0, [false, false], [9], 0⟩⟩
      (paged [.free, .filling 3 0] (active (op1000 read1000 .read .transfer) (.dataRead sector1000 (.read 1))))
    ((run (.dataReadEnd [false]) s).buffer.dataOf 1) = [9, 0] := by decide

/-- 01 R16 step 1: cells of gap 2 are counted, short of its end. -/
theorem test_gap_count :
    (run (.addressFieldEnd [true, true, true]) gap2Waiting).codec.mode = .dataWrite sector1000 (.page 0) (.gap 43) ∧
    (run (.addressFieldEnd (toBits [0xFF])) gap2Waiting).codec.mode = .dataWrite sector1000 (.page 0) (.gap 47) := by
  decide
/-- 01 R10, R16 step 2: seven of 690 bytes sent cover the 3 data bytes of 4 groups. -/
theorem test_running_crc :
    (run (.addressFieldEnd (List.replicate 56 true)) gateUp).codec.mode =
      .dataWrite sector1000 (.page 0) (.sending 56 (BitVec.ofNat 16 (crc16 ((gateUp.refData (.page 0)).take 3)))) := by
  decide +kernel

theorem witness_GapAndWritten :
    gap2Waiting.engine.op = some (op1000 write1000 .write .transfer) ∧
    gap2Waiting.codec.mode = .dataWrite sector1000 (.page 0) (.gap 40) ∧
    sector1000.zone < gap2Waiting.tables.zones.length ∧
    gap2Waiting.lockedAt (gap2Waiting.tables.zoneAt sector1000.zone).rpm = true ∧ gap2Waiting.pins.wprot = false ∧
    (gap2Waiting.tables.zoneAt sector1000.zone).writeLock = false ∧
    ({ gap2Waiting with pins := ⟨true, true⟩ } : State).pins.wprot = true ∧
    (spun (spinning .lost) gap2Waiting).lockedAt 1050 = false ∧
    gateUp.codec.mode = .dataWrite sector1000 (.page 0) (.sending 0 0xFFFF) ∧
    (toBits [0xE6, 0xB3, 0xCB]).length < 5520 ∧
    write1000.verifyFlag = false ∧ (Request.write 1000 1 1).verifyFlag = true ∧
    gateUp.tables.verifyDefault = false := by decide

/-- A track write at the pulse of a second revolution outside loss: 60,000 microseconds at 1050 rpm is 5 % slow. -/
def lastStraw (phase : TrackPhase) (flags : Byte) : State :=
  spun { spinning .locked with framing := .running 31 50000000, outBand := 1 } (tracking phase flags)

/-- 07 R126, 06 R107: SPIN_LOST, the gate down, the pass suspended. -/
theorem test_loss_in_track_write :
    let t := run (.tachPulse 10000000) (lastStraw (.running 5 40000000 6) 0)
    (t.spindle.state, t.codec.mode, t.engine.op.map (·.awaitingRelock)) = (.lost, .idle, some true) ∧
    (t.events.queue.map fun e => (e.kind, e.detail)) = [(.spinLost, 5)] := by decide
/-- The start pulse raises the gate and the loss drops it. -/
theorem test_loss_at_track_start :
    let t := run (.tachPulse 10000000) (lastStraw .waiting 0)
    (t.spindle.state, t.codec.mode, t.engine.op.map (·.awaitingRelock)) = (.lost, .idle, some true) := by decide

theorem witness_TrackWriteStarts :
    (tracking .waiting 0).codec.mode = .trackWrite 47 1 1 .waiting ∧ 1 < (tracking .waiting 0).tables.zones.length ∧
    (tracking .waiting 0).lockedAt ((tracking .waiting 0).tables.zoneAt 1).rpm = true ∧
    (tracking .waiting 0).pins.wprot = false ∧ ((tracking .waiting 0).tables.zoneAt 1).writeLock = false ∧
    (tracking .waiting 0).pos.state = .idle 47 ∧ (tracking .waiting 0).spindle.framing = .running 30 50000000 ∧
    (let s := lastStraw .waiting 0;
      s.codec.mode = .trackWrite 47 1 1 .waiting ∧ s.lockedAt (s.tables.zoneAt 1).rpm = true ∧
      s.pos.state = .idle 47 ∧ s.spindle.framing = .running 31 50000000 ∧ 1 ≤ s.spindle.outBand ∧
      1800000 < (deviation 60000 s.spindle.rpm).natAbs) ∧
    (tracking .waiting 0).engine.op = some (op1000 (.format 47 1 0) .trackWrite .trackWrite) ∧
    (op1000 (.format 47 1 0) .trackWrite .trackWrite).faultCount = 0 ∧
    ({ op1000 (.format 47 1 0) .trackWrite .trackWrite with faultCount := 1 } : Op).faultCount ≠ 0 ∧
    (∀ st ∈ [SpinState.lost, .retargeting], (spun (spinning st) (tracking .waiting 0)).lockedAt 1050 = false) ∧
    ({ tracking .waiting 0 with pins := ⟨true, true⟩ } : State).pins.wprot = true ∧
    (writeLocked.tables.zoneAt 1).writeLock = true ∧
    (∀ st ∈ [PosState.unknown, .idle 46, .settling 46 false],
      (posed st none none (tracking .waiting 0)).pos.state ≠ .idle 47 ∧
      (posed st none none (tracking .waiting 0)).lockedAt 1050 = true) := by decide

/-- Zone 1's nine sectors take 52,576,000 ns; the 31st and the 32nd pulse, with and without them sent. -/
theorem witness_TrackWriteEnds :
    (∀ k ∈ [30, 31],
      (tracking (.running k 50000000 7) 1).codec.mode = .trackWrite 47 1 1 (.running k 50000000 7)) ∧
    (tracking .waiting 1).engine.op = some (op1000 (.format 47 1 1) .trackWrite .trackWrite) ∧
    (Request.format 47 1 1).verifyFlag = true ∧ (Request.format 47 1 0).verifyFlag = false ∧
    (∀ k ∈ [30, 31], ∀ flags ∈ [0, 1],
      let s := lastStraw (.running k 50000000 7) flags
      s.codec.mode = .trackWrite 47 1 1 (.running k 50000000 7) ∧ s.spindle.state = .locked ∧
      s.spindle.framing = .running 31 50000000 ∧ s.spindle.outBand = 1 ∧ s.lines.reset = false ∧
      s.pins.wprot = false ∧ s.engine.op = some (op1000 (.format 47 1 flags) .trackWrite .trackWrite)) ∧
    ((tracking .waiting 1).tables.zoneAt 1).spt * (716 + 16) - 16 = 6572 ∧
    6572 * 8 * cellNs (((tracking .waiting 1).tables.active.map (·.device.cellCode)).getD 0) = 50000000 + 2576000 ∧
    ¬ 52576000 ≤ 50000000 + 2575999 ∧
    (op1000 (.format 47 1 1) .trackWrite .trackWrite).pass < 1 + (tracking .waiting 1).tables.writeRetries ∧
    1 + (tracking .waiting 1).tables.writeRetries ≤
      ({ op1000 (.format 47 1 1) .trackWrite .trackWrite with pass := 3 } : Op).pass := by decide

def formatOp (k : Nat) : Op :=
  { op1000 (.format 47 1 1) (.formatVerify k) .verify with huntRevs := 2 }

/-- Sectors 7 and 8 of the nine of zone 1; the reads are those of DataFieldReadEnds and DataFieldReadFails. -/
theorem witness_FormatVerifies :
    (∀ k ∈ [7, 8], (active (formatOp k) (.dataRead sector1000 .discard)).engine.op = some (formatOp k) ∧
      (active (formatOp k) (.dataRead sector1000 .discard)).codec.mode = .dataRead sector1000 .discard ∧
      (hunting (formatOp k) .discard).codec.mode = .hunt sector1000 .discard ∧
      (hunting (formatOp k) .discard).tables.huntRevs ≤ (formatOp k).huntRevs) ∧
    7 + 1 < ((tables []).zoneAt 1).spt ∧ ((tables []).zoneAt 1).spt ≤ 8 + 1 := by decide

/-- A WRITE on its last write pass, without a chain and with the last and the last but one trial of one. -/
def lastPass (chain : Option Chain) : State :=
  hunting { op1000 write1000 .write .hunt with pass := 3, huntRevs := 2, chain := chain } (.write (.page 0))

def fullMap : List Defect := List.replicate 192 (.retire 0 0 .grown)

theorem witness_SlotTrials :
    part.tables.placement 1000 = home1000 ∧ part.pins.wprot = false ∧ LowestFree part.tables 1 0 ∧
    NoneFree { part.tables with slots := [⟨[.free], 1⟩, ⟨[.used, .retired], 0⟩] } 1 ∧
    (∀ chain ∈ [none, some ⟨1000, 1, none, 1, some 0⟩, some ⟨1000, 1, none, 2, some 0⟩],
      (lastPass chain).engine.op.map (fun op => (op.purpose, op.chain, op.placement.map (·.zone))) =
        some (.write, chain, some 1) ∧
      (lastPass chain).codec.mode = .hunt sector1000 (.write (.page 0)) ∧
      (lastPass chain).tables.huntRevs ≤ 2 ∧ 1 + (lastPass chain).tables.writeRetries ≤ 3 ∧
      (lastPass chain).tables.autoRealloc = true ∧ (lastPass chain).tables.map.length < 192 ∧
      ({ lastPass chain with pins := ⟨true, true⟩ } : State).engine.op = (lastPass chain).engine.op) ∧
    FieldFails (readerOn (atTrailer 686 [7, 8] 1) gateUp) (.compare (.page 0)) (.dataReadEnd trailerBits) [7, 8] 0 ∧
    192 ≤ fullMap.length :=
  ⟨by decide, by decide, ⟨_, rfl, by decide, nofun⟩, by intro row h; cases h; decide, by decide,
    .badCheck trailerBits _ (by decide), by decide +kernel⟩

theorem witness_SlotOutcome :
    (let op := { op1000 write1000 .compare .verify with chain := some ⟨1000, 1, none, 0, some 0⟩ };
      let s := readerOn (zeroReader true) (active op (.dataRead sector1000 (.compare .zeros)));
      s.engine.op = some op ∧ op.purpose = .compare ∧ op.req.blocks ≤ op.cursor + 1 ∧ s.tables.map.length < 192) ∧
    gateUp.refData .zeros = zeros := by decide +kernel

theorem witness_WprotChangeActs :
    (lined ⟨true, false, none⟩ part).lines.reset = true ∧ (lined ⟨true, false, none⟩ part).pins.wprot = false ∧
    part.lines.reset = false ∧ part.pins.wprot = false ∧ part.codec.wgate = false ∧ gateUp.codec.wgate = true ∧
    gateUp.lines.reset = false ∧ gateUp.pins.wprot = false ∧
    gateUp.engine.op = some (op1000 write1000 .write .transfer) ∧
    (let op := { op1000 (.reassign 1000) .write .transfer with chain := some ⟨1000, 1, none, 0, some 0⟩ };
      let s := active op (.dataWrite sector1000 .zeros (.sending 0 0xFFFF));
      s.codec.wgate = true ∧ s.pins.wprot = false ∧ s.engine.op = some op ∧ op.stage ≠ .drain) ∧
    (tracking (.running 5 7000000 0) 0).codec.wgate = true := by decide

/-- The worked tables pass every check of a start, and without a zone they do not; the cleared image, whose check does not match, and a part whose line is released. -/
theorem witness_PowerOnAndRelease :
    ~~~ crc32 emptyImageBytes ≠ crc32 emptyImageBytes ∧
    (let s := lined ⟨false, true, some ⟨.link, 8⟩⟩ part;
      s.lines.lrst = true ∧ s.lines.reset = false ∧ s.lines.seed = some ⟨.link, 8⟩ ∧ s.arb.ho = none) ∧
    (let s := lined ⟨true, false, some ⟨.resetLine, 8⟩⟩ part;
      s.lines.reset = true ∧ s.lines.lrst = false ∧ s.lines.seed = some ⟨.resetLine, 8⟩ ∧ s.arb.ho = none) ∧
    (let s := lined ⟨true, true, some ⟨.resetLine, 8⟩⟩ part; s.lines.reset = true ∧ s.lines.lrst = true) ∧
    (device.bytes.length = 16 ∧ refCode.length = 64 ∧ (∀ e ∈ zones.map Zone.bytes, e.length = 7) ∧
      (∀ e ∈ startMap.map Defect.bytes, e.length = 6) ∧ zones.length ≤ 8 ∧ startMap.length ≤ 192) ∧
    (checkTable .device [device.bytes] = none ∧ checkTable .zone (zones.map Zone.bytes) = none ∧
      checkTable .code (refCode.map fun b => [b]) = none ∧ checkTable .defect (startMap.map Defect.bytes) = none ∧
      checkSet ⟨Device.ofBytes device.bytes, (zones.map Zone.bytes).map Zone.ofBytes, refCode,
        (startMap.map Defect.bytes).map Defect.ofBytes⟩ = none) ∧
    checkTable .zone [] ≠ none :=
  ⟨by decide +kernel, by decide, by decide, by decide, by decide, by decide, by decide⟩

/-- 11 R195: the pin moves while RESET is asserted, the sense at the release, with no event and, with LRST still
asserted, no NOTICE. -/
theorem test_release_of_one_line :
    let s := run (.wprotChange true) (lined ⟨true, true, some ⟨.resetLine, 8⟩⟩ part)
    let t := run (.resetRelease .reset) s
    (s.pins, t.pins) = (⟨true, false⟩, ⟨true, true⟩) ∧ t.events.queue = [] ∧ t.arb.ho = none ∧ t.arb.notice = none := by
  decide

/-- An address field of cylinder 46 ends as LRST comes. -/
def strayField : State := readerOn (addressReader ⟨46, 1, 7, 1⟩) (hunting verifyHunt .discard)

/-- 08 R148: the report taken first, the LRST taken first, and a whole ADDRESS_FIELD_END before it (08 R152). -/
theorem test_lrst_with_report :
    (run (.lrst trailerBits) strayField).pos.state = .unknown ∧ (run .lrst strayField).pos.state = .idle 47 ∧
    (run .lrst (run (.addressFieldEnd trailerBits) strayField)).pos.state = .recalibrating 0 255 328 := by decide
theorem test_lrst_with_report_uncounted :
    (run (.lrst trailerBits) strayField).pos.recals = 0 ∧ (run (.lrst trailerBits) strayField).engine.op = none := by
  decide

theorem witness_ResetLinesAct :
    part.lines.reset = false ∧ part.lines.lrst = false ∧ part.lines.seed = none ∧
    State.reset.lines.seed = some ⟨.power, 0⟩ ∧
    (posed (.stepping 115 78) (some 3) none part).pos.state = .stepping 115 78 ∧
    TakenBeforeReset part [] part ∧ TakenBeforeReset strayField [] strayField ∧
    (∃ v, TakenBeforeReset strayField trailerBits v ∧ v.pos.state = .unknown) ∧
    (∃ v, TakenBeforeReset strayField [false] v ∧ v.codec.decodeFaults = 1) ∧
    (∃ v, TakenBeforeReset (readerOn (atTrailer 8 [47, 1, 7, 1, 0, 0] 1) strayField) trailerBits v ∧
      v.codec.addrErrors = 1) ∧
    (let s := readerOn (addressReader ⟨47, 1, 8, 1⟩) strayField; TakenBeforeReset s trailerBits s) ∧
    (let s := posed (.settling 47 false) none (some 15) strayField; TakenBeforeReset s trailerBits s) :=
  ⟨by decide, by decide, by decide, by decide, by decide, .noHunt nofun,
    .unended sector1000 .discard _ rfl rfl,
    ⟨_, .reported sector1000 ⟨46, 1, 7, 1⟩ .discard verifyHunt 47 rfl (by decide) (by decide) rfl (by decide)
      (by decide) rfl, by decide⟩,
    ⟨_, .decodeFault sector1000 .discard rfl (by decide), by decide⟩,
    ⟨_, .badCheck sector1000 .discard rfl (by decide), by decide⟩,
    .onTrack sector1000 ⟨47, 1, 8, 1⟩ .discard rfl (by decide) (.inr fun op h _ => by cases h; decide),
    .unheld sector1000 .discard rfl ⟨⟨46, 1, 7, 1⟩, by decide⟩ nofun⟩

theorem witness_RecordedFieldsReadBack :
    refCode.length = 64 ∧ refCode.Nodup ∧ ∀ b ∈ refCode, codeByteOk b = true := by decide

/-- LBA 1000 in zone 1 without a REMAP, LBA 212 in zone 0 with one; the worked zones follow one another. -/
theorem witness_BlocksArePlaced :
    (tables startMap).zoneRecs = deriveZones (tables startMap).zones ∧
    ((tables startMap).zones[1]?).map (fun z => (z.cylCount - z.spareCyl) * 2 * z.spt) = some 702 ∧
    (((tables startMap).zones.take 1).map fun y => (y.cylCount - y.spareCyl) * 2 * y.spt).sum = 858 ∧
    (858 ≤ 1000 ∧ 1000 < 858 + 702) ∧ (∀ slot o, .remap 1000 slot o ∉ (tables startMap).map) ∧
    (tables startMap).map = [] ++ .remap 212 0 .loaded :: [.retire 2 5 .loaded] ∧
    (tables []).zones.Pairwise (fun a b => a.firstCyl + a.cylCount ≤ b.firstCyl) ∧
    (∀ z ∈ (tables []).zones, 0 < z.spt) ∧ 0 < (tables []).capacity ∧ 2651 < (tables []).capacity :=
  ⟨by decide, by decide, by decide, by decide, (by
      intro slot o h
      have : ∀ d ∈ startMap, d.sameKey (.remap 1000 slot o) = false := by intro d hd; fin_cases hd <;> rfl
      exact absurd (this _ h) (by simp [Defect.sameKey])), by decide, by decide, by decide, by decide, by decide⟩

theorem witness_MapChangeKeepsOrder :
    startMap.Pairwise (fun a b => a.before b = true) ∧
    (∀ e ∈ startMap, e.sameKey (.retire 1 0 .grown) = false) ∧ (tables startMap).active = some (worked startMap) := by
  decide

theorem witness_RetainedImageRestores :
    (10 : BitVec 16) ≠ 0 ∧ (worked startMap).code.length = 64 ∧
    (let raw : RawImage := ⟨10, [device.bytes], zones.map Zone.bytes, refCode.map fun b => [b],
        startMap.map Defect.bytes⟩;
      raw.valid = true ∧ raw.toSet = worked startMap) := by decide

end Sys2Proof.Tests
end

section
/-!
PROOFS. Which operations leave the write gate down (01 R15, R20). Every operation but the end of gap 2 and the start
pulse of a track write leaves a gate that is down as it is; those two ask `gateRefusal` first.
-/

namespace Sys2Proof.Machine

/-! ## Operations that leave the codec alone -/

@[simp] theorem settlePages_codec (tag : Tag) (s : State) : (settlePages tag s).codec = s.codec := by
  simp [settlePages]

@[simp] theorem finish_codec (op : Op) (status : Status) (failing : Option (BitVec 32)) (s : State) :
    (finish op status failing s).codec = s.codec := by
  unfold finish
  cases op.req.isRead
  · simp
  · simp only
    split <;> simp [enterDrain]

@[simp] theorem endWith_codec (op : Op) (status : Status) (s : State) : (endWith op status s).codec = s.codec := by
  simp [endWith]

@[simp] theorem deliverPage_codec (op : Op) (s : State) : (deliverPage op s).codec = s.codec := by
  simp [deliverPage]

@[simp] theorem lockLostReport_codec (s : State) : (lockLostReport s).codec = s.codec := by
  unfold lockLostReport
  split
  · rfl
  · split <;> simp

@[simp] theorem timeoutReport_codec (s : State) : (timeoutReport s).codec = s.codec := by
  unfold timeoutReport
  split
  · rfl
  · split <;> simp

@[simp] theorem stoppedReport_codec (s : State) : (stoppedReport s).codec = s.codec := by
  unfold stoppedReport
  split
  · rfl
  · split <;> simp

@[simp] theorem revolutionTold_codec (s : State) : (revolutionTold s).codec = s.codec := rfl

@[simp] theorem addressMatched_codec (s : State) : (addressMatched s).codec = s.codec := by
  unfold addressMatched
  split
  · rfl
  · split <;> simp

@[simp] theorem beginSpinUp_codec (op : Op) (s : State) : (beginSpinUp op s).codec = s.codec := by
  unfold beginSpinUp
  dsimp only
  split <;> simp [askSpeed]

@[simp] theorem beginSpinDown_codec (op : Op) (s : State) : (beginSpinDown op s).codec = s.codec := by
  unfold beginSpinDown
  dsimp only
  split <;> simp

@[simp] theorem stepExpiry_codec (trk0 : Bool) (s : State) : (stepExpiry trk0 s).1.codec = s.codec := by
  unfold stepExpiry
  cases s.pos.state with
  | stepping => dsimp only; split <;> simp
  | recalibrating => dsimp only; split <;> [skip; split] <;> simp
  | unknown | idle | settling => rfl

@[simp] theorem settleExpiry_codec (trk0 : Bool) (s : State) : (settleExpiry trk0 s).1.codec = s.codec := by
  unfold settleExpiry
  cases s.pos.state with
  | settling => dsimp only; split <;> simp
  | unknown | idle | stepping | recalibrating => rfl

/-! ## The codec's own operations -/

@[simp] theorem codecIdle_gate (s : State) : s.codecIdle.codec.wgate = false := by
  simp [State.codecIdle]

@[simp] theorem codecArm_gate (target : SectorId) (action : Action) (s : State) (h : s.codec.wgate = false) :
    (codecArm target action s).codec.wgate = false := by
  unfold codecArm
  cases s.codec.mode with
  | idle | hunt => rfl
  | dataRead | dataWrite | trackWrite => exact h

@[simp] theorem codecTrackWrite_gate (c hd z : Nat) (s : State) (h : s.codec.wgate = false) :
    (codecTrackWrite c hd z s).codec.wgate = false := by
  unfold codecTrackWrite
  cases s.codec.mode with
  | idle => rfl
  | hunt | dataRead | dataWrite | trackWrite => exact h

@[simp] theorem codecStop_gate (s : State) (h : s.codec.wgate = false) : (codecStop s).codec.wgate = false := by
  unfold codecStop
  cases s.codec.mode with
  | idle => exact h
  | hunt => rfl
  | dataRead | dataWrite | trackWrite => exact h

/-! ## The media engine -/

section
variable (s : State) (op : Op) (h : s.codec.wgate = false)
include h

@[simp] theorem armPass_gate : (armPass op s).codec.wgate = false := by
  simp [armPass, h]

@[simp] theorem giveTrackWrite_gate : (giveTrackWrite op s).codec.wgate = false := by
  simp [giveTrackWrite, h]

@[simp] theorem startAccess_gate : (startAccess op s).codec.wgate = false := by
  unfold startAccess
  cases op.purpose with
  | read | discard | compare | formatVerify => simp [h]
  | write | trackWrite => cases s.pins.wprot <;> simp [h]

@[simp] theorem closeIfReady_gate : (closeIfReady op s).codec.wgate = false := by
  unfold closeIfReady
  split <;> simp [h]

@[simp] theorem openBoth_gate : (openBoth op s).codec.wgate = false := by
  simp [openBoth, askSpeed, h]

@[simp] theorem reopenPosition_gate : (reopenPosition op s).codec.wgate = false := by
  simp [reopenPosition, h]

@[simp] theorem startTrial_gate (chain : Chain) : (startTrial op chain s).codec.wgate = false := by
  unfold startTrial
  split <;> simp [h]

@[simp] theorem startChain_gate : (startChain op s).codec.wgate = false := by
  simp [startChain, h]

@[simp] theorem slotFailed_gate (chain : Chain) : (slotFailed op chain s).codec.wgate = false := by
  unfold slotFailed
  dsimp only
  split
  · simp [h]
  · split <;> simp [h]

@[simp] theorem translateBlock_gate (p : Purpose) : (translateBlock p op s).codec.wgate = false := by
  unfold translateBlock
  dsimp only
  cases op.req with
  | write | reassign => dsimp only; split <;> simp [h]
  | read | verify | format | recal | spin => simp [h]

@[simp] theorem completeBlock_gate : (completeBlock op s).codec.wgate = false := by
  unfold completeBlock
  dsimp only
  split
  · simp [h]
  · split <;> simp [h]

@[simp] theorem slotSucceeded_gate (chain : Chain) : (slotSucceeded op chain s).codec.wgate = false := by
  unfold slotSucceeded
  split <;> simp [h]

@[simp] theorem readFailed_gate (why : PassFailure) : (readFailed why op s).codec.wgate = false := by
  unfold readFailed
  dsimp only
  split <;> simp [h]

@[simp] theorem writeFailed_gate (why : PassFailure) : (writeFailed why op s).codec.wgate = false := by
  unfold writeFailed
  dsimp only
  split
  · cases s.pins.wprot <;> simp [h]
  · cases op.chain with
    | some chain => simp [h]
    | none => dsimp only; split <;> simp [h]

@[simp] theorem nextFormatSector_gate (k : Nat) : (nextFormatSector k op s).codec.wgate = false := by
  unfold nextFormatSector
  split <;> simp [h]

@[simp] theorem formatReadFailed_gate (k : Nat) : (formatReadFailed k op s).codec.wgate = false := by
  simp [formatReadFailed, h]

@[simp] theorem trackOverran_gate : (trackOverran op s).codec.wgate = false := by
  unfold trackOverran
  dsimp only
  split <;> simp [h]

@[simp] theorem passFailed_gate (why : PassFailure) : (passFailed why op s).codec.wgate = false := by
  unfold passFailed
  cases op.purpose <;> simp [h]

@[simp] theorem passGood_gate : (passGood op s).codec.wgate = false := by
  unfold passGood
  cases op.purpose with
  | compare => cases op.chain <;> simp [h]
  | read | discard | formatVerify | write | trackWrite => simp [h]

@[simp] theorem sectorWritten_gate : (sectorWritten op s).codec.wgate = false := by
  unfold sectorWritten
  split <;> simp [h]

@[simp] theorem trackWritten_gate : (trackWritten op s).codec.wgate = false := by
  unfold trackWritten
  split <;> simp [h]

@[simp] theorem positionFault_gate (seen : Bool) : (positionFault seen op s).codec.wgate = false := by
  unfold positionFault
  dsimp only
  cases seen <;> split <;> simp [h]

@[simp] theorem resumePass_gate : (resumePass op s).codec.wgate = false := by
  unfold resumePass
  cases op.purpose <;> simp [h]

@[simp] theorem gateStopped_gate (cause : GateCause) : (gateStopped cause op s).codec.wgate = false := by
  cases cause <;> simp [gateStopped, h]

end

/-! ## Reports to the engine, and selections -/

section
variable (s : State) (h : s.codec.wgate = false)
include h

@[simp] theorem codecReport_gate (r : CodecReport) : (codecReport r s).codec.wgate = false := by
  unfold codecReport
  split
  · exact h
  · cases r with
    | read o => cases o <;> simp [h]
    | written | trackDone | refused | torn | abandoned => simp [h]

@[simp] theorem positionReport_gate (r : PosReport) : (positionReport r s).codec.wgate = false := by
  unfold positionReport
  split
  · exact h
  · cases r with
    | settled | seekFault | refused | recalFailed => dsimp only; split <;> simp [h]
    | recalDone => dsimp only; split <;> [skip; split] <;> simp [h]

@[simp] theorem positionReport?_gate (r : Option PosReport) : (positionReport? r s).codec.wgate = false := by
  cases r <;> simp [positionReport?, h]

@[simp] theorem lockedReport_gate : (lockedReport s).codec.wgate = false := by
  unfold lockedReport
  split
  · exact h
  · split
    · split <;> simp [h]
    · exact h

@[simp] theorem addressSeen_gate (id : SectorId) : (addressSeen id s).codec.wgate = false := by
  unfold addressSeen
  split
  · exact h
  · split <;> simp [h]

@[simp] theorem beginFormat_gate (cylinder head : Byte) (op : Op) :
    (beginFormat cylinder head op s).codec.wgate = false := by
  unfold beginFormat
  dsimp only
  split <;> simp [h]

@[simp] theorem beginOp_gate (tag : Tag) (req : Request) : (beginOp tag req s).codec.wgate = false := by
  unfold beginOp
  cases req with
  | read | write | verify | reassign | format | recal => simp [h]
  | spin mode => dsimp only; split <;> simp [h]

theorem scheduleLoop_gate (fuel : Nat) : (scheduleLoop fuel s).codec.wgate = false := by
  induction fuel generalizing s with
  | zero => exact h
  | succ fuel ih =>
    unfold scheduleLoop
    split
    · exact h
    · split
      · exact h
      · exact ih _ (by simp [h])

@[simp] theorem schedule_gate : (schedule s).codec.wgate = false := scheduleLoop_gate s h _

@[simp] theorem afterEngine_gate (u : State) : (afterEngine u s).codec.wgate = false := by
  unfold afterEngine
  split <;> simp [h]

end

/-! ## The codec's commands, the write-protect sense and the spindle -/

section
variable (s : State) (h : s.codec.wgate = false)
include h

@[simp] theorem addressEnd_gate (target : SectorId) (action : Action) (r : AddressRead) :
    (addressEnd target action r s).codec.wgate = false := by
  unfold addressEnd
  cases r with
  | more | fault | badCheck => exact h
  | good id =>
    dsimp only
    split
    · cases action <;> simp [matchTarget, Codec.wgate]
    · exact addressSeen_gate (s.setReader .clear) h id

@[simp] theorem huntExpires_gate (op : Op) : (huntExpires op s).codec.wgate = false := by
  unfold huntExpires
  cases s.codec.mode <;> simp [h]

@[simp] theorem dataEnd_gate (action : Action) (r : DataRead) : (dataEnd action r s).codec.wgate = false := by
  cases r with
  | more reader => rw [dataEnd, keepDecoded_codec]; exact h
  | noMark | fault | whole => simp [dataEnd, endDecodeFault]

@[simp] theorem dropGate_gate : (dropGate s).codec.wgate = false := by
  unfold dropGate
  split <;> simp [h]

@[simp] theorem senseChange_gate (active : Bool) : (senseChange active s).codec.wgate = false := by
  cases active <;> simp [senseChange, h]

/-- Bit cells that pass count the phase on and begin no sending (01 R16). -/
theorem pass_gate (target : SectorId) (ref : DataRef) (phase : WritePhase) (data : List Byte) (cells : Nat)
    (hm : s.codec.mode = .dataWrite target ref phase) :
    ({ s.codec with mode := .dataWrite target ref (phase.pass data cells) } : Codec).wgate = false := by
  cases phase with
  | gap => rfl
  | sending => simp [Codec.wgate, hm] at h

@[simp] theorem becomeLocked_gate : (becomeLocked s).codec.wgate = false := by
  simp [becomeLocked, h]

end

/-- With the spindle out of LOCKED no gate is up (01 R20). -/
@[simp] theorem codecLockLost_gate (s : State) : (codecLockLost s).codec.wgate = false := by
  unfold codecLockLost
  cases hr : s.codec.lockLossReport with
  | some r => simp
  | none =>
    unfold Codec.lockLossReport at hr
    cases hm : s.codec.mode with
    | idle => simp [Codec.wgate, hm]
    | hunt | dataRead | dataWrite | trackWrite => simp [hm] at hr

@[simp] theorem becomeLost_gate (detail : BitVec 24) (s : State) : (becomeLost detail s).codec.wgate = false := by
  simp [becomeLost]

theorem closeRevolution_gate (m : Nat) (s : State) (h : s.codec.wgate = false) :
    (closeRevolution m s).codec.wgate = false := by
  rw [closeRevolution_eq m s _ rfl, revolutionTold_codec]
  split
  · simp [h]
  · split <;> simp [h]

theorem spindlePulse_gate (ns : Nat) (s : State) (h : s.codec.wgate = false) :
    (spindlePulse ns s).codec.wgate = false := by
  unfold spindlePulse
  cases s.spindle.state with
  | stopped => exact h
  | stopping => simpa using h
  | starting | locked | retargeting | lost =>
    dsimp only
    split
    · simpa using h
    · exact closeRevolution_gate _ _ (by simpa using h)

/-! ## Frames of the host -/

@[simp] theorem countBadCrc_codec (s : State) : (countBadCrc s).codec = s.codec := by simp [countBadCrc]

@[simp] theorem countBadLength_codec (s : State) : (countBadLength s).codec = s.codec := by simp [countBadLength]

@[simp] theorem countOverrun_codec (s : State) : (countOverrun s).codec = s.codec := by simp [countOverrun]

theorem manage_gate (act : State → State) (s : State) (h : s.codec.wgate = false)
    (ha : (act s).codec.wgate = false) : (manage act s).codec.wgate = false := by
  unfold manage
  split
  · exact h
  · split
    · exact ha
    · simpa using h

@[simp] theorem loadOpen_codec (seq table : Byte) (s : State) : (loadOpen seq table s).codec = s.codec := by
  unfold loadOpen
  split
  · simp
  · split <;> simp

@[simp] theorem stopLoad_codec (seq : Byte) (id : TableId) (r : Rejection) (s : State) :
    (stopLoad seq id r s).codec = s.codec := by
  unfold stopLoad
  dsimp only
  split <;> simp

@[simp] theorem loadPut_codec (seq : Byte) (bytes : List Byte) (s : State) :
    (loadPut seq bytes s).codec = s.codec := by
  unfold loadPut
  split
  · simp
  · dsimp only
    split
    · simp
    · split <;> simp

@[simp] theorem loadClose_codec (seq : Byte) (s : State) : (loadClose seq s).codec = s.codec := by
  unfold loadClose
  split
  · simp
  · dsimp only
    split
    · simp
    · split <;> simp

@[simp] theorem loadDrop_codec (seq table : Byte) (s : State) : (loadDrop seq table s).codec = s.codec := by
  unfold loadDrop
  split <;> simp

@[simp] theorem commit_codec (seq : Byte) (s : State) : (commit seq s).codec = s.codec := by
  unfold commit
  split
  · simp
  · split
    · simp
    · split
      · split <;> simp [installSet]
      · simp

@[simp] theorem tableGet_codec (seq table first : Byte) (s : State) :
    (tableGet seq table first s).codec = s.codec := by
  unfold tableGet
  split <;> simp

@[simp] theorem wipe_codec (seq : Byte) (s : State) : (wipe seq s).codec = s.codec := by
  unfold wipe
  split <;> simp

@[simp] theorem query_gate (seq flags : Byte) (s : State) (h : s.codec.wgate = false) :
    (query seq flags s).codec.wgate = false := by
  unfold query
  dsimp only
  split
  · simp [h]
  · split
    · exact (congrArg Codec.wgate (produceReply_codec ..)).trans h
    · simp [h]

@[simp] theorem eventSet_codec (seq : Byte) (mask : BitVec 16) (s : State) :
    (eventSet seq mask s).codec = s.codec := by
  unfold eventSet
  split <;> simp

@[simp] theorem eventAck_codec (seq acked : Byte) (s : State) : (eventAck seq acked s).codec = s.codec := by
  unfold eventAck
  split <;> simp

@[simp] theorem removeWaiting_codec (r : Record) (s : State) : (removeWaiting r s).codec = s.codec := by
  unfold removeWaiting
  cases r.state <;> simp [State.leaveAwaitData]

@[simp] theorem markAbort_codec (s : State) : (markAbort s).codec = s.codec := by
  unfold markAbort
  split <;> simp

section
variable (s : State) (h : s.codec.wgate = false)
include h

theorem abort_gate (seq : Byte) (tag : Tag) : (abort seq tag s).codec.wgate = false := by
  unfold abort
  split
  · simp [h]
  · split <;> simp [h]

theorem takeRequest_gate (tag : Tag) (req : Request) : (takeRequest tag req s).codec.wgate = false := by
  unfold takeRequest
  split
  · exact h
  · split
    · exact h
    · unfold accept enterWaiting
      dsimp only
      split
      · simp [h]
      · split <;> simp [h, State.setReqState]

theorem takeBlock_gate (tag : Tag) (index : Byte) (data : List Byte) :
    (takeBlock tag index data s).codec.wgate = false := by
  have fill : ∀ n, (fillBlock tag n data s).codec = s.codec := fun n => by
    unfold fillBlock
    dsimp only
    split <;> simp
  unfold takeBlock bufferBlock discardBlock
  dsimp only
  split
  · exact h
  · split
    · split
      · split <;> simp [h, fill, writeReady, State.leaveAwaitData, State.setReqState]
      · simpa using h
    · simpa using h

theorem takeLoadPut_gate (seq : Byte) (entries : List Byte) :
    (takeLoadPut seq entries s).codec.wgate = false := by
  unfold takeLoadPut
  split
  · exact h
  · split
    · exact manage_gate _ s h (by simpa using h)
    · simpa using h

theorem deliver_gate (i : Instr) : (deliver i s).codec.wgate = false := by
  cases i with
  | read | write | verify | format | reassign | recal | spin => exact takeRequest_gate s h _ _
  | block => exact takeBlock_gate s h _ _ _
  | loadPut => exact takeLoadPut_gate s h _ _
  | abort seq tag => exact manage_gate _ s h (abort_gate s h seq tag)
  | loadOpen | loadClose | loadDrop | commit | tableGet | wipe | query | eventSet | eventAck =>
    exact manage_gate _ s h (by simp [h])
  | _ => exact h

theorem judge_gate (len : Nat) (bytes : List Byte) : (judge len bytes s).codec.wgate = false := by
  unfold judge
  split
  · simpa using h
  · split
    · split
      · exact deliver_gate s h _
      · simpa using h
    · simpa using h

theorem takeByte_gate (b : Byte) : (takeByte b s).codec.wgate = false := by
  unfold takeByte receiveByte
  split
  · exact h
  · split
    · split <;> exact h
    · exact h
    · split
      · exact h
      · rw [countBadLength_codec]
        exact h
    · split
      · exact h
      · exact judge_gate (s.setRx .hunt) h _ _

/-! ## Frames sent -/

theorem drained_gate (tag : Tag) : (drained tag s).codec.wgate = false := by
  unfold drained
  split
  · split
    · split <;> simp [h]
    · exact h
  · exact h

end

/-! ## Resets -/

@[simp] theorem produceNotice_codec (s : State) : (produceNotice s).codec = s.codec := by
  unfold produceNotice
  split <;> simp

/-! ## The commands -/

/-- Every command but GAP2_END and TACH_PULSE leaves a gate that is down as it is. -/
theorem exec_gate (i : Instr) (s t : State) (h : s.codec.wgate = false) (he : exec i s = .next t)
    (hg : i ≠ .gap2End) (hp : ∀ ns, i ≠ .tachPulse ns) : t.codec.wgate = false := by
  cases i with
  | gap2End => exact absurd rfl hg
  | tachPulse ns => exact absurd rfl (hp ns)
  | powerOn =>
    cases he
    simp [State.hardReset, Codec.reset, Codec.wgate]
  | reset =>
    simp only [exec, execReset] at he
    split at he <;> cases he
    · exact h
    · rfl
  | lrst bits =>
    simp only [exec, execLrst] at he
    split at he <;> cases he
    · exact h
    · rfl
  | resetRelease line =>
    simp only [exec, execResetRelease] at he
    split at he <;> cases he
    · split <;> simp [h]
    · exact h
  | hiByte bits =>
    simp only [exec, execHiByte] at he
    split at he <;> cases he
    · exact h
    · exact takeByte_gate _ (by simpa using h) _
  | read | write | verify | format | reassign | recal | spin =>
    cases he
    exact takeRequest_gate s h _ _
  | block =>
    cases he
    exact takeBlock_gate s h _ _ _
  | loadPut =>
    cases he
    exact takeLoadPut_gate s h _ _
  | abort seq tag =>
    cases he
    exact manage_gate _ s h (abort_gate s h seq tag)
  | loadOpen | loadClose | loadDrop | commit | tableGet | wipe | query | eventSet | eventAck =>
    cases he
    exact manage_gate _ s h (by simp [h])
  | noticeSent | replySent | doneSent | callSent | eventSent =>
    simp only [exec, execNoticeSent, execReplySent, execDoneSent, execCallSent, execEventSent] at he
    split at he <;> cases he
    · simpa [noticeGone, replyGone, doneGone, callGone, eventGone] using h
    · exact h
  | blockSent =>
    simp only [exec, execBlockSent] at he
    split at he <;> cases he
    · simp [pageGone, drained_gate, h]
    · exact h
  | dataTimeout tag =>
    simp only [exec, execDataTimeout] at he
    split at he <;> cases he
    · simp [State.leaveAwaitData, h]
    · exact h
  | enterLocked | enterLost | stallTimeout | spinupTimeout | retargetTimeout | silenceTimeout =>
    simp only [exec, execEnterLocked, execEnterLost, execStallTimeout, execSpinupTimeout, execRetargetTimeout,
      execSilenceTimeout] at he
    split at he <;> cases he
    · simp [h]
    · exact h
  | idleTimeout | resendTimeout =>
    simp only [exec, execIdleTimeout, execResendTimeout] at he
    split at he <;> cases he
    · simpa [resendHead] using h
    · exact h
  | stepTimerExpiry | settleTimerExpiry =>
    simp only [exec, execStepTimerExpiry, execSettleTimerExpiry] at he
    split at he <;> cases he
    · simp [h]
    · exact h
  | addressFieldEnd bits =>
    simp only [exec, execAddressFieldEnd] at he
    split at he <;> cases he
    · simp [h]
    · exact pass_gate s h _ _ _ _ _ ‹_›
    all_goals exact h
  | huntTimeout =>
    simp only [exec, execHuntTimeout] at he
    split at he
    · split at he <;> cases he
      · simp [h]
      · exact h
    · cases he
      exact h
  | dataMarkTimeout =>
    simp only [exec, execDataMarkTimeout] at he
    split at he <;> cases he
    · simp [h]
    all_goals exact h
  | dataReadEnd bits =>
    simp only [exec, execDataReadEnd] at he
    split at he <;> cases he
    · simp [h]
    all_goals exact h
  | written =>
    simp only [exec, execWritten] at he
    split at he <;> cases he
    · simp
    all_goals exact h
  | wprotChange active =>
    simp only [exec, execWprotChange] at he
    split at he <;> cases he
    · exact h
    · exact afterEngine_gate _ (senseChange_gate (s.setWprotPin active) h active) _
  | vretLoss =>
    cases he
    exact h

/-! ## The gate checks (01 R15) -/

/-- The gate is allowed exactly under the conditions of 01 R15. -/
theorem gateRefusal_none (s : State) (zone : Nat) (track : Option Nat) : gateRefusal s zone track = none ↔
    zone < s.tables.zones.length ∧ s.lockedAt (s.tables.zoneAt zone).rpm = true ∧ s.pins.wprot = false ∧
      (s.tables.zoneAt zone).writeLock = false ∧ ∀ c, track = some c → s.pos.state = .idle c := by
  unfold gateRefusal
  split_ifs with hl hw hk
  · refine ⟨nofun, fun ⟨hz, h, _⟩ => ?_⟩
    simp [hz, h] at hl
  · refine ⟨nofun, fun ⟨_, _, h, _⟩ => ?_⟩
    simp [hw] at h
  · refine ⟨nofun, fun ⟨_, _, _, h, _⟩ => ?_⟩
    simp [hk] at h
  · have hz : zone < s.tables.zones.length ∧ s.lockedAt (s.tables.zoneAt zone).rpm = true := by simpa using hl
    cases track with
    | none => simp [hz, hw, hk]
    | some c => by_cases hp : s.pos.state = .idle c <;> simp [hz, hw, hk, hp]

theorem gateRefusal_lock (s : State) (zone : Nat) (track : Option Nat)
    (hl : s.lockedAt (s.tables.zoneAt zone).rpm = false) : gateRefusal s zone track = some .lock := by
  simp [gateRefusal, hl]

/-- With lock, the write-protect sense and WRITE_LOCK refuse the gate whatever the positioner does. -/
theorem gateRefusal_barred (s : State) (zone : Nat) (track : Option Nat) (hz : zone < s.tables.zones.length)
    (hl : s.lockedAt (s.tables.zoneAt zone).rpm = true)
    (hb : s.pins.wprot = true ∨ (s.tables.zoneAt zone).writeLock = true) :
    gateRefusal s zone track = some .wprot ∨ gateRefusal s zone track = some .writeLock := by
  cases hw : s.pins.wprot with
  | true => simp [gateRefusal, hz, hl, hw]
  | false => simp [gateRefusal, hz, hl, hw, hb.resolve_left (by simp [hw])]

theorem gateRefusal_position (s : State) (zone c : Nat) (hz : zone < s.tables.zones.length)
    (hl : s.lockedAt (s.tables.zoneAt zone).rpm = true)
    (hb : ¬ (s.pins.wprot = true ∨ (s.tables.zoneAt zone).writeLock = true)) (hp : s.pos.state ≠ .idle c) :
    gateRefusal s zone (some c) = some .position := by
  simp only [not_or, Bool.not_eq_true] at hb
  simp [gateRefusal, hz, hl, hb, hp]

/-! ## The two commands that raise the gate -/

theorem afterEngine_same (s t : State) (h : t.engine.op.isSome = s.engine.op.isSome) : afterEngine s t = t := by
  unfold afterEngine
  rw [if_neg]
  rw [← h]
  cases t.engine.op <;> simp

/-- The end of gap 2 raises the gate only with no refusal, and does nothing else then. -/
theorem gap2End_raises (s t : State) (h : s.codec.wgate = false) (he : exec .gap2End s = .next t)
    (hu : t.codec.wgate = true) : ∃ target ref n, s.codec.mode = .dataWrite target ref (.gap n) ∧
      gateRefusal s target.zone none = none ∧ t = s.setCodec { s.codec with
        mode := .dataWrite target ref (.sending 0 0xFFFF), wdata := dataField s.tables.code (s.refData ref) } := by
  simp only [exec, execGap2End] at he
  split at he
  case h_1 target ref n hm =>
    cases he
    unfold gapEnd at hu ⊢
    cases hr : gateRefusal s target.zone none with
    | none => exact ⟨target, ref, n, hm, hr, afterEngine_same _ _ rfl⟩
    | some cause => simp [hr] at hu
  all_goals
    cases he
    simp [h] at hu

/-- The codec's count of a pulse raises the gate only at a start pulse, with no refusal. -/
theorem codecPulse_raises (ns : Nat) (s : State) (h : s.codec.wgate = false)
    (hu : (codecPulse ns s).codec.wgate = true) : ∃ c hd z, s.codec.mode = .trackWrite c hd z .waiting ∧
      gateRefusal s z (some c) = none ∧ codecPulse ns s = s.setCodec { s.codec with
        mode := .trackWrite c hd z (.running 0 0 0)
        wdata := trackRecord s.tables.code (s.tables.zoneAt z) c hd z } := by
  unfold codecPulse at hu ⊢
  split at hu
  case h_1 c hd z hm =>
    cases hr : gateRefusal s z (some c) with
    | none => exact ⟨c, hd, z, ‹_›, hr, rfl⟩
    | some cause => simp [hr] at hu
  case h_2 c hd z k t n hm => simp [Codec.wgate, hm] at h
  all_goals simp [h] at hu

/-- A revolution closed in LOCKED that leaves a gate up has left the spindle LOCKED at its target. -/
theorem closeRevolution_raised (m : Nat) (u : State) (hl : u.spindle.state = .locked)
    (hu : (closeRevolution m u).codec.wgate = true) : ∃ p e, closeRevolution m u = (u.setSpindle p).setEngine e ∧
      p.state = .locked ∧ p.target = u.spindle.target ∧ e.op.isSome = u.engine.op.isSome := by
  obtain ⟨p, d, hc, hps, hpt⟩ : ∃ p d, closeRevolution m u =
      revolutionTold (if p.outBand = 2 then becomeLost d (u.setSpindle p) else u.setSpindle p) ∧
        p.state = .locked ∧ p.target = u.spindle.target :=
    ⟨_, _, closeRevolution_locked m u _ rfl hl, hl, rfl⟩
  rw [hc] at hu ⊢
  split at hu
  · rw [revolutionTold_codec, becomeLost_gate] at hu
    cases hu
  · rw [if_neg ‹_›]
    exact ⟨p, _, rfl, hps, hpt, by simp⟩

/-- A pulse taken in LOCKED that leaves a gate up has left the spindle LOCKED at its target. -/
theorem spindlePulse_raised (ns : Nat) (u : State) (hl : u.spindle.state = .locked)
    (hu : (spindlePulse ns u).codec.wgate = true) : ∃ p e, spindlePulse ns u = (u.setSpindle p).setEngine e ∧
      p.state = .locked ∧ p.target = u.spindle.target ∧ e.op.isSome = u.engine.op.isSome := by
  have hs : spindlePulse ns u = match (u.spindle.framing.pulse ns).2 with
      | none => u.setSpindle { u.spindle with framing := (u.spindle.framing.pulse ns).1 }
      | some m => closeRevolution m (u.setSpindle { u.spindle with framing := (u.spindle.framing.pulse ns).1 }) := by
    unfold spindlePulse
    split
    · simp_all
    · simp_all
    all_goals rfl
  rw [hs] at hu ⊢
  cases hf : (u.spindle.framing.pulse ns).2 with
  | none => exact ⟨{ u.spindle with framing := (u.spindle.framing.pulse ns).1 }, u.engine, rfl, hl, rfl, rfl⟩
  | some m =>
    rw [hf] at hu
    obtain ⟨p, e, he, hp⟩ := closeRevolution_raised m _ (by exact hl) hu
    exact ⟨p, e, he, hp⟩

theorem lockedAt_iff (s : State) (rpm : Nat) : s.lockedAt rpm = true ↔
    s.spindle.state = .locked ∧ s.spindle.target.map (·.rpm) = some rpm := by
  simp [State.lockedAt]

/-- A TACH pulse raises the gate only for a track write that no check refuses, and then changes besides the codec only
the spindle, which stays LOCKED at its target, and the engine's revolution count. -/
theorem tachPulse_raises (ns : Nat) (s t : State) (h : s.codec.wgate = false)
    (he : exec (.tachPulse ns) s = .next t) (hu : t.codec.wgate = true) :
    ∃ c hd z wdata p e, gateRefusal s z (some c) = none ∧ p.state = .locked ∧ p.target = s.spindle.target ∧
      t = ((s.setCodec { s.codec with
        mode := .trackWrite c hd z (.running 0 0 0), wdata := wdata }).setSpindle p).setEngine e := by
  have ht : t = afterEngine s (spindlePulse ns (codecPulse ns s)) := by
    cases he
    rfl
  cases hc : (codecPulse ns s).codec.wgate with
  | false => simp [ht, spindlePulse_gate ns _ hc] at hu
  | true =>
    obtain ⟨c, hd, z, -, hr, hcp⟩ := codecPulse_raises ns s h hc
    have hl := ((lockedAt_iff ..).1 ((gateRefusal_none ..).1 hr).2.1).1
    rw [hcp] at ht
    cases hup : (spindlePulse ns (s.setCodec { s.codec with
        mode := .trackWrite c hd z (.running 0 0 0)
        wdata := trackRecord s.tables.code (s.tables.zoneAt z) c hd z })).codec.wgate with
    | false => simp [ht, hup] at hu
    | true =>
      obtain ⟨p, e, hs, hps, hpt, heo⟩ := spindlePulse_raised ns _ (by exact hl) hup
      rw [hs, afterEngine_same _ _ (by exact heo)] at ht
      exact ⟨c, hd, z, _, p, e, hr, hps, hpt, ht⟩

/-- Settles O7: of all commands only GAP2_END and a TACH pulse raise the gate, both through the gate checks, and a pulse
that goes on to lose the lock drops the gate again. -/
theorem gateRaisedOnlyWhenAllowed : Obligations.GateRaisedOnlyWhenAllowed := by
  intro s t hs h hu
  unfold step at hs
  split at hs
  · cases hs
    simp [h] at hu
  · rename_i i rest _
    by_cases hg : i = .gap2End
    · subst hg
      obtain ⟨target, ref, n, -, hr, rfl⟩ := gap2End_raises (s.setPending rest) t h hs hu
      obtain ⟨hz, hl, hw, hk, -⟩ := (gateRefusal_none ..).1 hr
      exact ⟨hw, target.zone, hz, hl, hk, .inl ⟨target, ref, 0, _, rfl, rfl⟩⟩
    by_cases hp : ∃ ns, i = .tachPulse ns
    · obtain ⟨ns, rfl⟩ := hp
      obtain ⟨c, hd, z, wdata, p, e, hr, hps, hpt, rfl⟩ := tachPulse_raises ns (s.setPending rest) t h hs hu
      obtain ⟨hz, hl, hw, hk, hpos⟩ := (gateRefusal_none ..).1 hr
      have hl' : p.state = .locked ∧ p.target.map (·.rpm) = some (s.tables.zoneAt z).rpm :=
        ⟨hps, hpt ▸ ((lockedAt_iff ..).1 hl).2⟩
      exact ⟨hw, z, hz, (lockedAt_iff ..).2 hl', hk, .inr ⟨c, hd, 0, 0, 0, rfl, hpos c rfl⟩⟩
    · have := exec_gate i (s.setPending rest) t h hs hg fun ns e => hp ⟨ns, e⟩
      simp [this] at hu

end Sys2Proof.Machine
end

section
/-!
PROOFS. The codec's commands while the engine works on a request: what is read in HUNT and in DATA_READ, and the end of
gap 2 and of a sector write (01 R11 to R16; 06 R97 to R108). Each command is first brought to the report it makes; the
laws of the engine's shared operations say the rest.
-/

namespace Sys2Proof.Machine

/-! ## Reports to an engine at work -/

section
variable (s : State) (op : Op) (ho : s.engine.op = some op) (hd : op.stage ≠ .drain)
include ho hd

theorem codecReport_good : codecReport (.read .good) s = passGood op s := by
  simp [codecReport, Engine.working_some _ op ho hd]

theorem codecReport_bad (o : DataOutcome) (h : o ≠ .good) : codecReport (.read o) s = passFailed .other op s := by
  cases o <;> simp_all [codecReport, Engine.working_some _ op ho hd]

theorem codecReport_written : codecReport .written s = sectorWritten op s := by
  simp [codecReport, Engine.working_some _ op ho hd]

theorem codecReport_trackDone : codecReport .trackDone s = trackWritten op s := by
  simp [codecReport, Engine.working_some _ op ho hd]

theorem codecReport_refused (cause : GateCause) : codecReport (.refused cause) s = gateStopped cause op s := by
  simp [codecReport, Engine.working_some _ op ho hd]

theorem codecReport_torn (cause : GateCause) : codecReport (.torn cause) s = gateStopped cause op s := by
  simp [codecReport, Engine.working_some _ op ho hd]

theorem addressMatched_eq : addressMatched s =
    s.setEngine { s.engine with op := some { op with stage := if op.stage = .hunt then .transfer else op.stage } } := by
  simp only [addressMatched, Engine.working_some _ op ho hd]
  split
  · rfl
  · exact (State.setEngine_self s ho).symm

theorem addressSeen_onTrack (id : SectorId) (hc : id.cylinder = op.target.cylinder) (hh : id.head = op.target.head) :
    addressSeen id s = s := by
  simp [addressSeen, Engine.working_some _ op ho hd, Op.misplaces, hc, hh]

theorem addressSeen_misplaced (id : SectorId) (h : id.cylinder ≠ op.target.cylinder ∨ id.head ≠ op.target.head) :
    addressSeen id s = positionFault true op s := by
  simp [addressSeen, Engine.working_some _ op ho hd, Op.misplaces, h]

end

/-- No selection follows a command that leaves the engine with a request. -/
theorem next_schedule_busy {u t : State} (h : u = t) (hb : t.engine.op.isSome = true) :
    (.next (schedule u) : Result) = .next t := by
  rw [h, schedule_busy t hb]

/-! ## Address fields (01 R11; 06 R98 to R100) -/

/-- ADDRESS_FIELD_END in HUNT with a request in the engine. -/
theorem exec_addressFieldEnd_hunt (s : State) (bits : List Bool) (op : Op) (target : SectorId) (action : Action)
    (hm : s.codec.mode = .hunt target action) (ho : s.engine.op = some op) :
    exec (.addressFieldEnd bits) s = .next (schedule
      (addressEnd target action (readAddress s.tables.inverse s.codec.reader bits) s)) := by
  simp only [exec, execAddressFieldEnd, hm, afterEngine_busy s _ op ho]

theorem codecStop_hunt (s : State) (target : SectorId) (action : Action) (hm : s.codec.mode = .hunt target action) :
    codecStop s = s.codecIdle := by
  simp [codecStop, hm]

theorem positionFaultReport_idle (s : State) (c : Nat) (h : s.pos.state = .idle c) : positionFaultReport s =
    raiseEvent .positionFault (BitVec.ofNat 24 c) (s.setPos { s.pos with state := .unknown }) := by
  simp only [positionFaultReport, h]
  rfl

theorem takeRecal_unknown (s : State) (h : s.pos.state = .unknown) : takeRecal s = s.setPos { s.pos with
    state := .recalibrating 0 255 s.tables.recalLimit, energised := true, stepTimer := some s.tables.stepMs
    recals := bump s.pos.recals } := by
  simp only [takeRecal, h, Positioner.beginRecal]

theorem takeRecal_idle (s : State) (c : Nat) (h : s.pos.state = .idle c) : takeRecal s = s.setPos { s.pos with
    state := .recalibrating 0 c s.tables.recalLimit, energised := true, stepTimer := some s.tables.stepMs
    recals := bump s.pos.recals } := by
  simp only [takeRecal, h, Positioner.beginRecal]

theorem takeRecal_moving (s : State) (hu : s.pos.state ≠ .unknown) (hi : ∀ c, s.pos.state ≠ .idle c) :
    takeRecal s = s.setPos { s.pos with held := some .recalibrate } := by
  unfold takeRecal
  cases hp : s.pos.state with
  | unknown => exact absurd hp hu
  | idle c => exact absurd hp (hi c)
  | stepping | settling | recalibrating => rfl

/-- The first position fault of a block recalibrates the head, the second ends the request (06 R99, R100). -/
theorem positionFault_eq (seen : Bool) (op : Op) (s u : State)
    (hu : (if seen then positionFaultReport (codecStop s) else codecStop s) = u) : positionFault seen op s =
      if op.faultCount = 0 then
        (takeRecal u).setOp { op with faultCount := 1, stage := .positionSpeed, posOpen := true }
      else ended op ⟨.seekFault, op.blocksDone, op.retriesUsed, none, none⟩ u := by
  subst hu
  simp only [positionFault, endWith_eq, Status.namesLba, Bool.false_eq_true, if_false]

/-- Settles O44, by the outcomes of the address field. -/
theorem addressFieldActs : Obligations.AddressFieldActs := by
  intro s bits op target action hm ho hd htc hth read resumed
  have he := exec_addressFieldEnd_hunt s bits op target action hm ho
  refine ⟨fun reader hr => ?more, fun hr => ?fault, fun hr => ?bad, fun hr => ?target, fun id hr hne hc hh => ?other,
    fun id c hr hp hpos => ?misplaced⟩ <;> change readAddress _ _ _ = _ at hr <;> rw [he, hr]
  case more | fault | bad => exact next_schedule_busy rfl (show s.engine.op.isSome = true by simp [ho])
  case target =>
    refine next_schedule_busy ?_ rfl
    simp only [addressEnd, if_true, matchTarget]
    refine (addressMatched_eq _ op (by exact ho) hd).trans ?_
    cases action <;> rfl
  case other =>
    refine next_schedule_busy ?_ (show s.engine.op.isSome = true by simp [ho])
    simp only [addressEnd, hne, if_false]
    exact addressSeen_onTrack (s.setReader .clear) op ho hd id (hc.trans htc) (hh.trans hth)
  case misplaced =>
    intro failed
    have hne : id ≠ target := by
      rintro rfl
      exact hp.elim (absurd rfl) (absurd rfl)
    have hs : addressEnd target action (.good id) s = positionFault true op (s.setReader .clear) := by
      simp only [addressEnd, hne, if_false]
      exact addressSeen_misplaced (s.setReader .clear) op ho hd id (by rwa [← htc, ← hth])
    have hu : positionFaultReport (codecStop (s.setReader .clear)) = failed := by
      rw [codecStop_hunt _ target action (by exact hm)]
      exact positionFaultReport_idle _ c hpos
    rw [hs, positionFault_eq true op _ failed hu]
    refine ⟨fun hf => next_schedule_busy ?_ rfl, fun hf => by rw [if_neg hf]⟩
    rw [if_pos hf, takeRecal_unknown failed (by simp [failed])]
    simp [failed, State.setOp]

/-! ## Pages (04 R54, R62) -/

theorem modifyAt_modifyAt {α : Type} (xs : List α) (i : Nat) (f g : α → α) :
    modifyAt (modifyAt xs i f) i g = modifyAt xs i fun x => g (f x) := by
  induction xs generalizing i with
  | nil => rfl
  | cons x xs ih => cases i <;> simp [modifyAt, ih]

theorem modifyAt_id {α : Type} (xs : List α) (i : Nat) : modifyAt xs i (fun x => x) = xs := by
  induction xs generalizing i with
  | nil => rfl
  | cons x xs ih => cases i <;> simp [modifyAt, ih]

/-- A page's data say nothing of its owner and index. -/
theorem Buffer.pageOf_setPage (b : Buffer) (p : Nat) (f : Page → Page) (hf : ∀ q, (f q).use = q.use) (tag : Tag)
    (index : Nat) : (b.setPage p f).pageOf tag index = b.pageOf tag index := by
  have hu : ∀ j, (b.setPage p f).useOf j = b.useOf j := fun j => by
    simp only [Buffer.useOf, Buffer.setPage, modifyAt_getElem?]
    split
    · cases b.pages[j]? <;> simp [hf]
    · rfl
  have hl : (b.setPage p f).pages.length = b.pages.length := modifyAt_length ..
  simp only [Buffer.pageOf, Buffer.ownedBy, hu, hl]

/-- The bytes decoded for a READ, in the page the action names (01 R14 step 3). -/
theorem keepDecoded_read (page : Nat) (data : List Byte) (s : State) : keepDecoded (.read page) data s =
    s.setBuffer { s.buffer with
      pages := modifyAt s.buffer.pages page fun q => { q with data := data ++ q.data.drop data.length } } := rfl

/-- With no byte decoded no page changes. -/
theorem keepDecoded_nil (action : Action) (s : State) : keepDecoded action [] s = s := by
  cases action with
  | read page =>
    rw [keepDecoded_read]
    simp only [List.nil_append, List.length_nil, List.drop_zero]
    rw [modifyAt_id]
    rfl
  | compare | discard | write => rfl

/-- A READ's page, once its field has been read whole, is FULL and offered (04 R62). -/
theorem deliverPage_whole (op : Op) (page : Nat) (data : List Byte) (s : State)
    (hp : s.buffer.pageOf op.tag op.cursor = some page) (hl : data.length = 512) :
    deliverPage op (keepDecoded (.read page) data s).codecIdle =
      arbitrate ((s.codecIdle.setBuffer { s.buffer with
          pages := modifyAt s.buffer.pages page fun q => ⟨.full op.tag op.cursor, data ++ q.data.drop 512⟩ }).setArb
        { s.arb with blocks := s.arb.blocks ++ [page] }) := by
  have hc : cursorPage op (keepDecoded (.read page) data s).codecIdle = page := by
    have := Buffer.pageOf_setPage s.buffer page (fun q => { q with data := data ++ q.data.drop data.length })
      (fun _ => rfl) op.tag op.cursor
    exact congrArg (·.getD 0) (this.trans hp)
  unfold deliverPage offerBlock
  rw [hc, keepDecoded_read, ← hl]
  simp only [Buffer.setUse, Buffer.setPage, State.codecIdle_buffer, State.setBuffer_buffer, modifyAt_modifyAt]
  rfl

/-! ## Data fields read to a good end (01 R14; 06 R92, R105) -/

/-- DATA_READ_END in DATA_READ with a request in the engine. -/
theorem exec_dataReadEnd_reading (s : State) (bits : List Bool) (op : Op) (target : SectorId) (action : Action)
    (hm : s.codec.mode = .dataRead target action) (ho : s.engine.op = some op) :
    exec (.dataReadEnd bits) s = .next (schedule
      (dataEnd action (readData s.tables.inverse s.codec.reader bits) s)) := by
  simp only [exec, execDataReadEnd, hm, afterEngine_busy s _ op ho]

/-- A field read whole, its check good and, for a COMPARE, its data as expected, ends the pass well. -/
theorem dataEnd_good (s : State) (op : Op) (action : Action) (data : List Byte) (ho : s.engine.op = some op)
    (hd : op.stage ≠ .drain) (hc : ∀ ref, action = .compare ref → data = s.refData ref) :
    dataEnd action (.whole data true) s = passGood op (keepDecoded action data s).codecIdle := by
  have hw : wholeOutcome s action data true = .good := by
    cases action with
    | compare ref => simp [wholeOutcome, hc ref rfl]
    | read | discard | write => rfl
  simp only [dataEnd, hw]
  exact codecReport_good _ op (by simpa using ho) hd

/-- Settles O46: the pass ends well, and the block of the request is complete. -/
theorem dataFieldReadEnds : Obligations.DataFieldReadEnds := by
  intro s bits op target action data hm ho hd hr idled
  have he := exec_dataReadEnd_reading s bits op target action hm ho
  rw [hr] at he
  refine ⟨fun h => ⟨completeBlock op idled, ?_, completeBlock_done _ _ fun _ => ?_⟩,
    fun page hq hp ha hpage hl => ⟨completeBlock op _, ?_, completeBlock_done _ _ fun _ => .inl hq⟩⟩
  · rw [he]
    rcases h with ⟨hp, rfl, -⟩ | ⟨hp, hch, -, ref, rfl, hdata⟩
    · rw [dataEnd_good s op _ data ho hd (by simp)]
      simp only [passGood, hp]
      rfl
    · rw [dataEnd_good s op _ data ho hd (by simpa using hdata)]
      simp only [passGood, hp, hch]
      rfl
  · rcases h with ⟨-, -, hq⟩ | ⟨-, -, hq, -⟩
    · exact .inr (.inl hq)
    · exact .inr (.inr hq)
  · subst ha
    rw [he, dataEnd_good s op _ data ho hd (by simp)]
    simp only [passGood, hp, deliverPage_whole op page data s hpage hl]
    rfl

/-- A pass that has begun has its request in the engine. -/
theorem passBegun_busy (op : Op) (s : State) : (passBegun op s).engine.op.isSome = true := by
  unfold passBegun
  split <;> rfl

/-! ## Passes that fail (06 R101 to R106) -/

section
variable (op : Op) (s : State) (hc : s.codec.mode = .idle)

include hc in
/-- A read pass that failed otherwise than by a hunt timeout is repeated while the budget lasts. -/
theorem readFailed_again (hp : op.purpose ≠ .trackWrite) (hn : op.pass < 1 + s.tables.readRetries) :
    readFailed .other op s = passBegun
      { op with pass := op.pass + 1, retriesUsed := min 255 (op.retriesUsed + 1), failures := .mixed }
      (s.setEngine { s.engine with readRetries := bump s.engine.readRetries }) := by
  simp only [readFailed, if_pos hn]
  exact armPass_eq _ _ hp hc

theorem readFailed_ends (hn : 1 + s.tables.readRetries ≤ op.pass) :
    readFailed .other op s = ended { op with failures := .mixed }
      ⟨.dataError, op.blocksDone, op.retriesUsed, some (op.req.firstLba + op.cursor), none⟩ s := by
  simp only [readFailed, if_neg (Nat.not_lt.2 hn), endWith_eq]
  rfl

include hc in
/-- A write pass that failed otherwise than by a hunt timeout begins again with the write. -/
theorem writeFailed_again (hn : op.pass < 1 + s.tables.writeRetries) (hw : s.pins.wprot = false) :
    writeFailed .other op s = passBegun
      { op with pass := op.pass + 1, retriesUsed := min 255 (op.retriesUsed + 1), failures := .mixed
                purpose := .write }
      (s.setEngine { s.engine with writeRetries := bump s.engine.writeRetries }) := by
  simp only [writeFailed, if_pos hn, hw, Bool.false_eq_true, if_false]
  exact armPass_eq _ _ (by simp [Op.nextPass]) hc

theorem writeFailed_protected (hn : op.pass < 1 + s.tables.writeRetries) (hw : s.pins.wprot = true)
    (hq : op.req.isRead = false) : writeFailed .other op s =
      produceDone op.tag ⟨.writeProtected, op.blocksDone, op.retriesUsed, none, none⟩ s := by
  simp only [writeFailed, if_pos hn, hw, if_true]
  exact endWith_done { op with failures := op.failures.after .other, purpose := .write } .writeProtected s hq

end

/-! ## Data fields not ended well (01 R13, R14; 06 R101 to R105) -/

/-- A reader's data bytes are the first 512 of what its field has decoded (01 R8). -/
theorem Reader.data_eq (r : Reader) : ((r.field.map (·.payload)).getD []).take 512 = r.data := by
  unfold Reader.data
  cases r.field <;> rfl

theorem keepDecoded_setReader (action : Action) (data : List Byte) (s : State) (r : Reader) :
    keepDecoded action data (s.setReader r) = (keepDecoded action data s).setReader r := by
  cases action <;> rfl

/-- A field that does not end well fails the pass, with the decoded bytes kept and a decode fault counted. -/
theorem exec_fieldFails (s : State) (i : Instr) (op : Op) (target : SectorId) (action : Action) (data : List Byte)
    (faults : Counter) (hm : s.codec.mode = .dataRead target action) (ho : s.engine.op = some op)
    (hd : op.stage ≠ .drain) (hf : FieldFails s action i data faults) :
    exec i s = .next (schedule (passFailed .other op ((keepDecoded action data s).setCodec { s.codec with
      mode := .idle, stopHeld := false, reader := .clear, wdata := [], decodeFaults := faults }))) := by
  have fault : ∀ bytes, endDecodeFault (keepDecoded action bytes s) =
      passFailed .other op ((keepDecoded action bytes s).setCodec { s.codec with
        mode := .idle, stopHeld := false, reader := .clear, wdata := []
        decodeFaults := bump s.codec.decodeFaults }) := fun bytes => by
    rw [endDecodeFault, codecReport_bad _ op (by simpa [State.countDecodeFault] using ho) hd _ (by simp)]
    simp [State.countDecodeFault, State.codecIdle, Codec.toIdle, State.setCodec]
  have bad : ∀ bytes ok, wholeOutcome s action bytes ok ≠ .good → dataEnd action (.whole bytes ok) s =
      passFailed .other op ((keepDecoded action bytes s).setCodec { s.codec with
        mode := .idle, stopHeld := false, reader := .clear, wdata := [] }) := fun bytes ok h => by
    rw [dataEnd, codecReport_bad _ op (by simpa using ho) hd _ h]
    simp [State.codecIdle, Codec.toIdle]
  have hend := fun bits => exec_dataReadEnd_reading s bits op target action hm ho
  cases hf with
  | markTimeout h =>
    simp only [exec, execDataMarkTimeout, hm, h, afterEngine_busy s _ op ho, dataEnd]
    rw [← fault, keepDecoded_nil]
  | noMark bits h =>
    rw [hend, h, ← fault, keepDecoded_nil]
    rfl
  | decodeFault bits _ h =>
    rw [hend, h, ← fault]
    rfl
  | badCheck bits _ h => rw [hend, h, bad _ _ (by simp [wholeOutcome])]
  | differs bits _ ref h ha hne => rw [hend, h, bad _ _ (by simp [wholeOutcome, ha, hne])]

/-- Settles O47: short of its end the field's bits are kept, and an end that is not good fails the pass. -/
theorem dataFieldReadFails : Obligations.DataFieldReadFails := by
  intro s i op target action data buffer faults hm ho hd hkind
  have hkeep : keepDecoded action data s = s.setBuffer buffer := by
    rcases hkind with ⟨page, rfl, -, -, rfl⟩ | ⟨rfl, -, -, rfl⟩ | ⟨ref, rfl, -, -, rfl⟩ <;> rfl
  refine ⟨fun bits reader hr hdata => ?_, fun hf => ?_⟩
  · rw [exec_dataReadEnd_reading s bits op target action hm ho, hr]
    refine next_schedule_busy ?_ (show s.engine.op.isSome = true by simp [ho])
    rw [dataEnd, ← Reader.data_eq] at *
    rw [← hdata, keepDecoded_setReader, hkeep]
    rfl
  · have he := exec_fieldFails s i op target action data faults hm ho hd hf
    rw [hkeep] at he
    have hpass : op.purpose ≠ .compare → ∀ u, passFailed .other op u = readFailed .other op u := fun h u => by
      rcases hkind with ⟨-, -, hp, -⟩ | ⟨-, hp, -⟩ | ⟨-, -, hp, -⟩
      · simp [passFailed, hp]
      · simp [passFailed, hp]
      · exact absurd hp h
    have htrack : op.purpose ≠ .trackWrite := by
      rcases hkind with ⟨-, -, hp, -⟩ | ⟨-, hp, -⟩ | ⟨-, -, hp, -⟩ <;> simp [hp]
    refine ⟨fun hp hn => ?_, fun hp hn => ?_, fun hp hn => ?_⟩
    · rw [he, hpass hp]
      exact next_schedule_busy (readFailed_again op _ rfl htrack hn) (passBegun_busy _ _)
    · rw [he, hpass hp, readFailed_ends op _ (by exact hn)]
    · have hq : op.req.isRead = false := by
        rcases hkind with ⟨-, -, hp', -⟩ | ⟨-, hp', -⟩ | ⟨-, -, -, ⟨_, _, _, hq⟩ | ⟨_, hq⟩, -⟩
        · simp [hp] at hp'
        · simp [hp] at hp'
        all_goals simp [hq, Request.isRead]
      have hw : ∀ u, passFailed .other op u = writeFailed .other op u := fun u => by simp [passFailed, hp]
      rw [he, hw]
      refine ⟨fun hpin => ?_, fun hpin => ?_⟩
      · exact next_schedule_busy (writeFailed_again op _ rfl hn hpin) (passBegun_busy _ _)
      · rw [writeFailed_protected op _ (by exact hn) (by exact hpin) hq]

/-! ## The gate refused (06 R107, R108) -/

theorem gateStopped_lock (op : Op) (s : State) : gateStopped .lock op s =
    s.setEngine { s.engine with op := some { op with
      stage := op.purpose.huntStage, awaitingRelock := true, huntRevs := 0 } } := rfl

/-- The write-protect sense and WRITE_LOCK end the request alike. -/
theorem gateStopped_barred (op : Op) (s : State) (cause : GateCause) (hq : op.req.isRead = false)
    (h : cause = .wprot ∨ cause = .writeLock) : gateStopped cause op s =
      produceDone op.tag ⟨.writeProtected, op.blocksDone, op.retriesUsed, none, none⟩ s := by
  rcases h with rfl | rfl <;> exact endWith_done op .writeProtected s hq

/-! ## Sector writes (01 R15, R16; 06 R104, R105) -/

/-- Bit cells that pass in DATA_WRITE only move its phase on. -/
theorem exec_addressFieldEnd_writing (s : State) (bits : List Bool) (target : SectorId) (ref : DataRef)
    (phase : WritePhase) (hm : s.codec.mode = .dataWrite target ref phase) : exec (.addressFieldEnd bits) s =
      .next (s.setCodec { s.codec with mode := .dataWrite target ref (phase.pass (s.refData ref) bits.length) }) := by
  simp only [exec, execAddressFieldEnd, hm]

/-- The running CRC since the rise of the gate is the check of the data bytes sent (01 R6). -/
theorem writeCrc_start (data : List Byte) (m : Nat) :
    (writeCrc data 0 m 0xFFFF).toNat = crc16 (data.take (coveredBy m)) := rfl

/-- GAP2_END with a request in the engine. -/
theorem exec_gap2End_gap (s : State) (op : Op) (target : SectorId) (ref : DataRef) (n : Nat)
    (hm : s.codec.mode = .dataWrite target ref (.gap n)) (ho : s.engine.op = some op) :
    exec .gap2End s = .next (schedule (gapEnd target ref s)) := by
  simp only [exec, execGap2End, hm, afterEngine_busy s _ op ho]

theorem gapEnd_allowed (s : State) (target : SectorId) (ref : DataRef)
    (h : gateRefusal s target.zone none = none) : gapEnd target ref s = s.setCodec { s.codec with
      mode := .dataWrite target ref (.sending 0 0xFFFF), wdata := dataField s.tables.code (s.refData ref) } := by
  simp only [gapEnd, h]

theorem gapEnd_refused (s : State) (op : Op) (target : SectorId) (ref : DataRef) (cause : GateCause)
    (ho : s.engine.op = some op) (hd : op.stage ≠ .drain) (h : gateRefusal s target.zone none = some cause) :
    gapEnd target ref s = gateStopped cause op s.codecIdle := by
  simp only [gapEnd, h]
  exact codecReport_refused _ op (by simpa using ho) hd cause

/-- WRITTEN with a request in the engine. -/
theorem exec_written_sending (s : State) (op : Op) (target : SectorId) (ref : DataRef) (n : Nat) (crc : BitVec 16)
    (hm : s.codec.mode = .dataWrite target ref (.sending n crc)) (ho : s.engine.op = some op)
    (hd : op.stage ≠ .drain) : exec .written s = .next (schedule (sectorWritten op s.codecIdle)) := by
  simp only [exec, execWritten, hm, afterEngine_busy s _ op ho]
  rw [codecReport_written _ op (by simpa using ho) hd]

theorem verifies_iff (op : Op) (t : Tables) :
    verifies op t = true ↔ op.chain ≠ none ∨ op.req.verifyFlag = true ∨ t.verifyDefault = true := by
  simp [verifies, Option.isSome_iff_ne_none, or_assoc]

theorem sectorWritten_verified (op : Op) (s : State) (hc : s.codec.mode = .idle)
    (hv : op.chain ≠ none ∨ op.req.verifyFlag = true ∨ s.tables.verifyDefault = true) :
    sectorWritten op s = passBegun { op with purpose := .compare } s := by
  rw [sectorWritten, if_pos ((verifies_iff ..).2 hv)]
  exact armPass_eq _ _ (by simp) hc

theorem sectorWritten_unverified (op : Op) (s : State)
    (hv : ¬ (op.chain ≠ none ∨ op.req.verifyFlag = true ∨ s.tables.verifyDefault = true)) :
    sectorWritten op s = completeBlock op s := by
  rw [sectorWritten, if_neg fun h => hv ((verifies_iff ..).1 h)]

/-- Settles O48: the cells of gap 2 and of the field, the gate checks at the end of the gap, and WRITTEN. -/
theorem gapAndWritten : Obligations.GapAndWritten := by
  intro s op target ref n bits ho hd hp hreq idled verified
  have hq : op.req.isRead = false := by rcases hreq with ⟨_, _, _, hq⟩ | ⟨_, hq⟩ <;> simp [hq, Request.isRead]
  refine ⟨fun hm => ⟨exec_addressFieldEnd_writing s bits _ _ _ hm, fun hz => ⟨fun hl => ?locked, fun hl =>
    ⟨fun hw hk => ?allowed, fun hb => ?barred⟩⟩⟩, fun hm hlen =>
      ⟨writeCrc (s.refData ref) 0 (bits.length / 8) 0xFFFF, ?sending, writeCrc_start _ _⟩,
    fun crc hm => ⟨fun hv => ?compared, fun hv => ?done⟩⟩
  case locked =>
    rw [exec_gap2End_gap s op _ _ _ hm ho, gapEnd_refused s op _ _ _ ho hd (gateRefusal_lock s _ _ hl),
      gateStopped_lock, hp]
    exact next_schedule_busy rfl rfl
  case allowed =>
    rw [exec_gap2End_gap s op _ _ _ hm ho,
      gapEnd_allowed s _ _ ((gateRefusal_none ..).2 ⟨hz, hl, hw, hk, by simp⟩)]
    exact next_schedule_busy rfl (show s.engine.op.isSome = true by simp [ho])
  case barred =>
    obtain ⟨cause, hr, hcause⟩ : ∃ cause, gateRefusal s target.zone none = some cause ∧
        (cause = .wprot ∨ cause = .writeLock) := by
      rcases gateRefusal_barred s target.zone none hz hl hb with h | h
      · exact ⟨_, h, .inl rfl⟩
      · exact ⟨_, h, .inr rfl⟩
    rw [exec_gap2End_gap s op _ _ _ hm ho, gapEnd_refused s op _ _ _ ho hd hr, gateStopped_barred op _ _ hq hcause]
    rfl
  case sending =>
    rw [exec_addressFieldEnd_writing s bits _ _ _ hm]
    have hcells : min (dataFieldCells - 1) (0 + bits.length) = bits.length := by
      unfold dataFieldCells
      omega
    simp only [WritePhase.pass, hcells, Nat.zero_div]
  case compared =>
    rw [exec_written_sending s op _ _ _ _ hm ho hd]
    exact next_schedule_busy (sectorWritten_verified op _ rfl hv) (passBegun_busy _ _)
  case done =>
    refine ⟨completeBlock op idled, ?_, completeBlock_done _ _ fun hblocks => ?_⟩
    · rw [exec_written_sending s op _ _ _ _ hm ho hd, sectorWritten_unverified op _ (by exact hv)]
      rfl
    · rcases hreq with hq | ⟨lba, hq⟩
      · exact .inr (.inr hq)
      · simp [hq, Request.blocks] at hblocks

end Sys2Proof.Machine
end

section
/-!
PROOFS. Track writes: the start pulse, the pulses counted, the 32nd, and what the FORMAT does with each; WPROT during
one (01 R15, R18, R20; 06 R107 to R111). The codec's part of a pulse is brought to the report it makes; what the spindle
controller does with the same pulse is `execTachPulse_goesOn`.
-/

namespace Sys2Proof.Machine

/-! ## The start pulse (01 R15, R18) -/

section
variable (ns c h z : Nat) (s : State) (hm : s.codec.mode = .trackWrite c h z .waiting)
include hm

theorem codecPulse_starts (hr : gateRefusal s z (some c) = none) : codecPulse ns s = s.setCodec { s.codec with
    mode := .trackWrite c h z (.running 0 0 0)
    wdata := trackRecord s.tables.code (s.tables.zoneAt z) c h z } := by
  simp only [codecPulse, hm, hr]

theorem codecPulse_refused (op : Op) (ho : s.engine.op = some op) (hd : op.stage ≠ .drain) (cause : GateCause)
    (hr : gateRefusal s z (some c) = some cause) : codecPulse ns s = gateStopped cause op s.codecIdle := by
  simp only [codecPulse, hm, hr]
  exact codecReport_refused _ op (by simpa using ho) hd cause

end

/-- A position fault that no address field showed: the codec is IDLE, and no report is made to the positioner (06
R99, R100). -/
theorem gateStopped_position (op : Op) (s : State) (hc : s.codec.mode = .idle) : gateStopped .position op s =
    if op.faultCount = 0 then (takeRecal s).setOp { op with faultCount := 1, stage := .positionSpeed, posOpen := true }
    else ended op ⟨.seekFault, op.blocksDone, op.retriesUsed, none, none⟩ s :=
  positionFault_eq false op s s (by simp [codecStop, hc])

/-- Settles O49: the start pulse by the gate checks, and each refusal by what the engine does with it. -/
theorem trackWriteStarts : Obligations.TrackWriteStarts := by
  refine ⟨fun s ns c h z hm hz hl hw hk hpos => execTachPulse_goesOn ns s _ ?_,
    fun s ns c h z op hm hz ho hd hp hreq => ?_⟩
  · rw [codecPulse_starts ns c h z s hm ((gateRefusal_none ..).2 ⟨hz, hl, hw, hk, by simpa using hpos⟩)]
    rfl
  · have hq : op.req.isRead = false := by
      obtain ⟨_, _, _, hq⟩ := hreq
      simp [hq, Request.isRead]
    have refused := codecPulse_refused ns c h z s hm op ho hd
    intro idled locked barred ends recalibrates recal
    refine ⟨fun hl => execTachPulse_goesOn ns s _ ?_, fun hl hb => execTachPulse_goesOn ns s _ ?_,
      fun hl hb hpos => ?_⟩
    · rw [refused _ (gateRefusal_lock s z _ hl), gateStopped_lock, hp]
      rfl
    · rcases gateRefusal_barred s z (some c) hz hl hb with hr | hr
      · rw [refused _ hr, gateStopped_barred op _ _ hq (.inl rfl)]
        rfl
      · rw [refused _ hr, gateStopped_barred op _ _ hq (.inr rfl)]
        rfl
    · have hs := (refused _ (gateRefusal_position s z c hz hl hb hpos)).trans (gateStopped_position op _ rfl)
      refine ⟨fun hf => ?_, fun hf => execTachPulse_goesOn ns s _ ?_⟩
      · rw [if_pos hf] at hs
        refine ⟨fun hu => ?_, fun x hx => ?_, fun hu hi => ?_⟩ <;> refine execTachPulse_goesOn ns s _ (hs.trans ?_)
        · rw [takeRecal_unknown _ (by exact hu)]
          rfl
        · rw [takeRecal_idle _ x (by exact hx)]
          rfl
        · rw [takeRecal_moving _ (by exact hu) (by exact hi)]
          rfl
      · rw [hs, if_neg hf, ended_done op _ _ hq]
        rfl

/-! ## A running track write (01 R18; 06 R110, R111) -/

/-- The cell time in force is that of the active device record (02 R24). -/
theorem cellTime_eq (t : Tables) : t.cellTime = cellNs ((t.active.map (·.device.cellCode)).getD 0) := by
  unfold Tables.cellTime Tables.param Tables.device?
  cases t.active <;> rfl

section
variable (ns c h z k t n : Nat) (s : State) (hm : s.codec.mode = .trackWrite c h z (.running k t n))
include hm

theorem codecPulse_counts (hk : k < 31) : codecPulse ns s = s.setCodec { s.codec with
    mode := .trackWrite c h z (.running (k + 1) (t + ns)
      (min (s.tables.zoneAt z).spt (bytesIn (t + ns) s.tables.cellTime / (s.tables.zoneAt z).sectorBytes)))
    wdata := fillTo (bytesIn (t + ns) s.tables.cellTime) s.codec.wdata } := by
  simp only [codecPulse, hm, if_pos (show k + 1 < Config.pulsesPerRev by simp only [Config.pulsesPerRev]; omega)]

variable (op : Op) (ho : s.engine.op = some op) (hd : op.stage ≠ .drain) (hk : k = 31)
include ho hd hk

theorem codecPulse_done (hn : trackNeedNs (s.tables.zoneAt z) s.tables.cellTime ≤ t + ns) :
    codecPulse ns s = trackWritten op s.codecIdle := by
  subst hk
  simp only [codecPulse, hm, Config.pulsesPerRev, Nat.reduceAdd, Nat.lt_irrefl, if_false, if_pos hn]
  exact codecReport_trackDone _ op (by simpa using ho) hd

theorem codecPulse_overran (hn : ¬ trackNeedNs (s.tables.zoneAt z) s.tables.cellTime ≤ t + ns) :
    codecPulse ns s = trackOverran op s.codecIdle := by
  subst hk
  simp only [codecPulse, hm, Config.pulsesPerRev, Nat.reduceAdd, Nat.lt_irrefl, if_false, if_neg hn]
  exact codecReport_torn _ op (by simpa using ho) hd .overrun

end

section
variable (op : Op) (s : State)

theorem trackWritten_plain (hq : op.req.isRead = false) (hv : op.req.verifyFlag = false) :
    trackWritten op s = produceDone op.tag ⟨.ok, op.blocksDone, op.retriesUsed, none, none⟩ s := by
  simp only [trackWritten, hv, Bool.false_eq_true, if_false]
  exact endWith_done op .ok s hq

/-- The verification of a FORMAT begins with sector 0 (06 R112). -/
theorem trackWritten_verified (hc : s.codec.mode = .idle) (hv : op.req.verifyFlag = true) :
    trackWritten op s = passBegun { op with purpose := .formatVerify 0 } s := by
  simp only [trackWritten, hv, if_true]
  exact armPass_eq _ s (by simp) hc

theorem trackOverran_again (hc : s.codec.mode = .idle) (hp : op.purpose = .trackWrite)
    (hn : op.pass < 1 + s.tables.writeRetries) : trackOverran op s = passBegun
      { op with pass := op.pass + 1, retriesUsed := min 255 (op.retriesUsed + 1), failures := .mixed }
      (s.setEngine { s.engine with writeRetries := bump s.engine.writeRetries }) := by
  simp only [trackOverran, if_pos hn]
  exact giveTrackWrite_eq _ _ hp hc

theorem trackOverran_ends (hq : op.req.isRead = false) (hn : 1 + s.tables.writeRetries ≤ op.pass) :
    trackOverran op s = produceDone op.tag ⟨.spinFault, op.blocksDone, op.retriesUsed, none, none⟩ s := by
  simp only [trackOverran, if_neg (Nat.not_lt.2 hn)]
  exact endWith_done { op with failures := op.failures.after .other } .spinFault s hq

end

/-- WPROT becoming active with the gate up ends the request (01 R20; 11 R195; 06 R108). -/
theorem exec_wprotChange_gateUp (s : State) (op : Op) (ho : s.engine.op = some op) (hd : op.stage ≠ .drain)
    (hq : op.req.isRead = false) (hg : s.codec.wgate = true) (hr : s.lines.reset = false)
    (hw : s.pins.wprot = false) : exec (.wprotChange true) s = .next (schedule (produceDone op.tag
      ⟨.writeProtected, op.blocksDone, op.retriesUsed, none, none⟩
      ((raiseEvent .wpAssert 0 (s.setPins ⟨true, true⟩)).setCodec s.codec.toIdle))) := by
  generalize hv : raiseEvent .wpAssert 0 (s.setPins ⟨true, true⟩) = v
  have hvc : v.codec = s.codec := by simp [← hv]
  have hvo : v.engine.op = some op := by simp [← hv, ho]
  have hs : senseChange true (s.setWprotPin true) = dropGate v := congrArg dropGate hv
  have hdrop : dropGate v = codecReport (.torn .wprot) v.codecIdle := by
    simp only [dropGate, Codec.wprotReport, hvc, hg, if_true]
  simp only [exec, execWprotChange, hr, hw, Bool.false_eq_true, or_self, if_false, afterEngine_busy s _ op ho, hs,
    hdrop]
  rw [codecReport_torn _ op (by simpa using hvo) hd, gateStopped_barred op _ _ hq (.inl rfl), ← hvc]
  rfl

/-- Settles O50: each pulse of a running track write, and WPROT during it. -/
theorem trackWriteEnds : Obligations.TrackWriteEnds := by
  intro s ns c h z k t n op hm ho hp hst hreq zone cell sent idled ends allSent
  have hd : op.stage ≠ .drain := by simp [hst]
  have hq : op.req.isRead = false := by
    obtain ⟨_, _, _, hq⟩ := hreq
    simp [hq, Request.isRead]
  have hall : allSent ↔ trackNeedNs (s.tables.zoneAt z) s.tables.cellTime ≤ t + ns := by
    rw [cellTime_eq]
    rfl
  have done : k = 31 → allSent → codecPulse ns s = trackWritten op s.codecIdle := fun hk ha =>
    codecPulse_done ns c h z k t n s hm op ho hd hk (hall.1 ha)
  have overran : k = 31 → ¬ allSent → codecPulse ns s = trackOverran op s.codecIdle := fun hk ha =>
    codecPulse_overran ns c h z k t n s hm op ho hd hk fun hn => ha (hall.2 hn)
  refine ⟨fun hk => execTachPulse_goesOn ns s _ ?_, fun hk ha hv => execTachPulse_goesOn ns s _ ?_,
    fun hk ha hv => execTachPulse_goesOn ns s _ ?_, fun hk ha hn => execTachPulse_goesOn ns s _ ?_,
    fun hk ha hn => execTachPulse_goesOn ns s _ ?_, fun hr hw => ?_⟩
  · rw [codecPulse_counts ns c h z k t n s hm hk, cellTime_eq]
    rfl
  · rw [done hk ha, trackWritten_plain op _ hq hv]
    rfl
  · rw [done hk ha, trackWritten_verified op _ rfl hv]
    rfl
  · rw [overran hk ha, trackOverran_again op _ rfl hp (by exact hn)]
    simp only [passBegun, armedAction, hp, hst]
    rfl
  · rw [overran hk ha, trackOverran_ends op _ hq (by exact hn)]
    rfl
  · rw [exec_wprotChange_gateUp s op ho hd hq (by simp [Codec.wgate, hm]) hr hw]
    rfl

end Sys2Proof.Machine
end

section
/-!
PROOFS. Recorded fields read back (01 R3 to R8, R11 to R14): a list of bits as a number and back, the groups of a
payload as its bits, the running check of a field, the inverse code table, the mark search, and the bytes of a field
from its mark to its TRAILER.
-/

namespace Sys2Proof.Machine

/-! ## Bits as numbers (00_scope.md, bit order) -/

theorem bitsNat_append_singleton (bits : List Bool) (b : Bool) :
    bitsNat (bits ++ [b]) = 2 * bitsNat bits + b.toNat := by
  simp [bitsNat]

theorem bitsNat_lt (bits : List Bool) : bitsNat bits < 2 ^ bits.length := by
  induction bits using List.reverseRecOn with
  | nil => simp [bitsNat]
  | append_singleton bits b ih =>
    rw [bitsNat_append_singleton, List.length_append, List.length_singleton, Nat.pow_succ]
    have := Bool.toNat_le b
    omega

theorem bitsNat_append_zeros (bits : List Bool) (m : Nat) :
    bitsNat (bits ++ List.replicate m false) = bitsNat bits * 2 ^ m := by
  induction m with
  | zero => simp
  | succ m ih =>
    rw [List.replicate_succ', ← List.append_assoc, bitsNat_append_singleton, ih, Nat.pow_succ]
    simp only [Bool.toNat_false]
    ring

theorem natBits_length (k n : Nat) : (natBits k n).length = k := by simp [natBits]

theorem natBits_succ (k n : Nat) (b : Bool) : natBits (k + 1) (2 * n + b.toNat) = natBits k n ++ [b] := by
  unfold natBits
  rw [List.range_succ, List.map_append]
  congr 1
  · refine List.map_congr_left fun i hi => ?_
    have hi := List.mem_range.1 hi
    rw [show k + 1 - 1 - i = (k - 1 - i) + 1 by omega, Nat.testBit_succ]
    congr 1
    have := Bool.toNat_lt b
    omega
  · cases b <;> simp

/-- A string of bits is read back from its number. -/
theorem natBits_bitsNat (bits : List Bool) : natBits bits.length (bitsNat bits) = bits := by
  induction bits using List.reverseRecOn with
  | nil => rfl
  | append_singleton bits b ih =>
    rw [bitsNat_append_singleton, List.length_append, List.length_singleton, natBits_succ, ih]

/-- The bits of the byte that eight bits make. -/
theorem byteBits_byte_bitsNat (bits : List Bool) (h : bits.length = 8) : byteBits (byte (bitsNat bits)) = bits := by
  have hb : byteBits (byte (bitsNat bits)) = natBits 8 (bitsNat bits) := by
    simp only [byteBits, byte, BitVec.getLsbD_ofNat]
    simp [natBits, List.range_succ]
  rw [hb, ← h, natBits_bitsNat]

theorem byteBits_injective {a b : Byte} (h : byteBits a = byteBits b) : a = b := by
  rw [← byte_bitsNat_byteBits a, h, byte_bitsNat_byteBits]

theorem toBits_append (xs ys : List Byte) : toBits (xs ++ ys) = toBits xs ++ toBits ys := by simp [toBits]

theorem toBits_length (bs : List Byte) : (toBits bs).length = 8 * bs.length := by
  induction bs with
  | nil => rfl
  | cons b bs ih =>
    rw [toBits_cons, List.length_append, ih, byteBits_length, List.length_cons]
    omega

theorem toBits_singleton (b : Byte) (rest : List Bool) : toBits [b] ++ rest = byteBits b ++ rest := by
  simp [toBits]

/-- Whole bytes, then fewer than eight bits: the bytes are determined by the bits. -/
theorem toBits_determined (xs ys : List Byte) (a b : List Bool) (ha : a.length < 8) (hb : b.length < 8)
    (h : toBits xs ++ a = toBits ys ++ b) : xs = ys := by
  induction xs generalizing ys with
  | nil =>
    have hl := congrArg List.length h
    simp only [List.length_append, toBits_length, List.length_nil] at hl
    exact (List.length_eq_zero_iff.1 (by omega)).symm
  | cons x xs ih =>
    cases ys with
    | nil =>
      have hl := congrArg List.length h
      simp only [List.length_append, toBits_length, List.length_nil, List.length_cons] at hl
      omega
    | cons y ys =>
      rw [toBits_cons, toBits_cons, List.append_assoc, List.append_assoc] at h
      obtain ⟨hx, hr⟩ := List.append_inj h rfl
      rw [byteBits_injective hx, ih ys hr]

/-! ## The groups of a payload (01 R4) -/

/-- A group as it is recorded: its bits, completed with zero bits. -/
def groupBits (g : List Bool) : List Bool := g ++ List.replicate (6 - g.length) false

theorem natBits_group (g : List Bool) (h : g.length ≤ 6) :
    natBits 6 (bitsNat g * 2 ^ (6 - g.length)) = groupBits g := by
  have hl : (groupBits g).length = 6 := by simp [groupBits, h]
  rw [← bitsNat_append_zeros]
  exact (congrArg (natBits · _) hl.symm).trans (natBits_bitsNat (groupBits g))

theorem group_lt (g : List Bool) (h : g.length ≤ 6) : bitsNat g * 2 ^ (6 - g.length) < 64 := by
  have hl : (g ++ List.replicate (6 - g.length) false).length = 6 := by simp [h]
  have := bitsNat_lt (g ++ List.replicate (6 - g.length) false)
  rwa [hl, bitsNat_append_zeros] at this

theorem chunks_length_le {α : Type} (k fuel : Nat) (xs : List α) : ∀ g ∈ chunks k fuel xs, g.length ≤ k := by
  induction fuel generalizing xs with
  | zero => simp [chunks]
  | succ fuel ih =>
    cases xs with
    | nil => simp [chunks]
    | cons x xs =>
      intro g hg
      rcases List.mem_cons.1 hg with rfl | hg
      · exact List.length_take_le ..
      · exact ih _ g hg

theorem chunks_nil {α : Type} (k fuel : Nat) : chunks k fuel ([] : List α) = [] := by
  cases fuel <;> rfl

/-- The pieces put together again, with the zero bits that complete the last one. -/
theorem chunks_groupBits (fuel : Nat) (bits : List Bool) (h : bits.length ≤ fuel) :
    ∃ m < 6, (chunks 6 fuel bits).flatMap groupBits = bits ++ List.replicate m false := by
  induction fuel generalizing bits with
  | zero => exact ⟨0, by omega, by simp [chunks, List.length_eq_zero_iff.1 (Nat.le_zero.1 h)]⟩
  | succ fuel ih =>
    cases bits with
    | nil => exact ⟨0, by omega, rfl⟩
    | cons x xs =>
      rw [chunks, List.flatMap_cons]
      by_cases hl : 6 ≤ (x :: xs).length
      · obtain ⟨m, hm, hr⟩ := ih ((x :: xs).drop 6) (by simp at h ⊢; omega)
        refine ⟨m, hm, ?_⟩
        rw [hr, groupBits, List.length_take, Nat.min_eq_left hl, Nat.sub_self, List.replicate_zero, List.append_nil,
          ← List.append_assoc, List.take_append_drop]
      · refine ⟨6 - (x :: xs).length, by simp; omega, ?_⟩
        rw [List.drop_of_length_le (by omega), List.take_of_length_le (by omega), chunks_nil]
        simp [groupBits]

theorem packGroups_lt (payload : List Byte) : ∀ g ∈ packGroups payload, g < 64 := by
  intro g hg
  obtain ⟨c, hc, rfl⟩ := List.mem_map.1 hg
  exact group_lt c (chunks_length_le 6 _ _ c hc)

/-- The groups of a payload hold its bits, then fewer than six zero bits. -/
theorem packGroups_bits (payload : List Byte) :
    ∃ m < 6, (packGroups payload).flatMap (natBits 6) = toBits payload ++ List.replicate m false := by
  obtain ⟨m, hm, h⟩ := chunks_groupBits (payload.length * 8) (toBits payload) (by rw [toBits_length]; omega)
  refine ⟨m, hm, ?_⟩
  rw [← h, packGroups, List.flatMap_map]
  exact List.flatMap_congr fun c hc => natBits_group c (chunks_length_le 6 _ _ c hc)

theorem flatMap_natBits_length (k : Nat) (gs : List Nat) : (gs.flatMap (natBits k)).length = k * gs.length := by
  induction gs with
  | nil => simp
  | cons g gs ih =>
    rw [List.flatMap_cons, List.length_append, natBits_length, ih, List.length_cons]
    ring

/-- A payload makes as many groups as its bits need (01 R4). -/
theorem packGroups_length (payload : List Byte) : (packGroups payload).length = (8 * payload.length + 5) / 6 := by
  obtain ⟨m, hm, h⟩ := packGroups_bits payload
  have hl := congrArg List.length h
  rw [flatMap_natBits_length, List.length_append, List.length_replicate, toBits_length] at hl
  omega

/-! ## The running check (01 R6) -/

theorem crc16From_append (r : Nat) (xs ys : List Byte) :
    crc16From r (xs ++ ys) = crc16From (crc16From r xs) ys := by
  induction xs generalizing r with
  | nil => rfl
  | cons x xs ih => simp only [List.cons_append, crc16From, forced_eq, ih]

theorem crc16Bit_lt (r : Nat) (h : r < 65536) : crc16Bit r < 65536 := by
  unfold crc16Bit
  split
  · exact Nat.xor_lt_two_pow (n := 16) (Nat.mod_lt _ (by decide)) (by decide)
  · rename_i hb
    rw [Nat.testBit_eq_decide_div_mod_eq, decide_eq_true_iff] at hb
    omega

theorem crc16Bits_lt (n r : Nat) (h : r < 65536) : crc16Bits n r < 65536 := by
  induction n generalizing r with
  | zero => exact h
  | succ n ih => simpa only [crc16Bits, forced_eq] using ih _ (crc16Bit_lt r h)

theorem crc16From_lt (r : Nat) (bs : List Byte) (h : r < 65536) : crc16From r bs < 65536 := by
  induction bs generalizing r with
  | nil => exact h
  | cons b bs ih =>
    simp only [crc16From, forced_eq]
    have hb : b.toNat * 256 < 2 ^ 16 := by have := b.isLt; omega
    exact ih _ (crc16Bits_lt _ _ (Nat.xor_lt_two_pow (n := 16) h hb))

theorem crc16_eq (bs : List Byte) : crc16 bs = crc16From 0xFFFF bs :=
  Nat.mod_eq_of_lt (crc16From_lt _ bs (by decide))

theorem crcByte_toNat (crc : BitVec 16) (v : Byte) : (crcByte crc v).toNat = crc16From crc.toNat [v] := by
  rw [crcByte, BitVec.toNat_ofNat]
  exact Nat.mod_eq_of_lt (crc16From_lt _ _ crc.isLt)

/-! ## A field between its bytes (01 R5, R12) -/

/-- A field stands between two of its bytes with the bits `bits` decoded: whole bytes as payload, fewer than eight bits
in the assembler, and the running check over the covered payload bytes. -/
structure OpenField.Decoded (covered : Nat) (f : OpenField) (bits : List Bool) : Prop where
  framer : f.framer = []
  assembler : f.assembler.length < 8
  decoded : toBits f.payload ++ f.assembler = bits
  crc : f.crc.toNat = crc16From 0xFFFF (f.payload.take covered)

theorem OpenField.decoded_start (covered : Nat) : OpenField.start.Decoded covered [] :=
  ⟨rfl, by decide, rfl, by simp [OpenField.start, crc16From]⟩

/-- A payload byte more, and the check over it where it is covered. -/
theorem OpenField.takeByte_crc (covered : Nat) (v : Byte) (f : OpenField)
    (h : f.crc.toNat = crc16From 0xFFFF (f.payload.take covered)) :
    (f.takeByte covered v).crc.toNat = crc16From 0xFFFF ((f.payload ++ [v]).take covered) := by
  unfold OpenField.takeByte
  dsimp only
  by_cases hl : f.payload.length < covered
  · rw [if_pos hl, crcByte_toNat, h, List.take_of_length_le (by omega), List.take_of_length_le (by simp; omega),
      crc16From_append]
  · rw [if_neg hl, h, List.take_append_of_le_length (by omega)]

/-- A group more: its six bits are decoded, and a byte is assembled whenever eight bits are there. -/
theorem OpenField.Decoded.takeGroup {covered : Nat} {f : OpenField} {bits : List Bool} (h : f.Decoded covered bits)
    (g : Nat) : (f.takeGroup covered g).Decoded covered (bits ++ natBits 6 g) := by
  obtain ⟨hf, ha, hd, hc⟩ := h
  have hl : (f.assembler ++ natBits 6 g).length = f.assembler.length + 6 := by simp [natBits_length]
  unfold OpenField.takeGroup
  dsimp only
  by_cases h8 : (f.assembler ++ natBits 6 g).length < 8
  · rw [if_pos h8]
    exact ⟨hf, h8, by rw [← hd, List.append_assoc], hc⟩
  · rw [if_neg h8]
    refine ⟨hf, ?_, ?_, OpenField.takeByte_crc covered _ _ hc⟩
    · simp only [OpenField.takeByte, List.length_drop]
      omega
    · have hb : ((f.assembler ++ natBits 6 g).take 8).length = 8 := by rw [List.length_take]; omega
      simp only [OpenField.takeByte]
      rw [toBits_append, ← hd, toBits_cons, byteBits_byte_bitsNat _ hb]
      simp only [toBits, List.flatMap_nil, List.append_nil, List.append_assoc, List.take_append_drop]

/-- A field after a run of groups. -/
def OpenField.takeGroups (covered : Nat) (gs : List Nat) (f : OpenField) : OpenField :=
  gs.foldl (fun f g => f.takeGroup covered g) f

theorem OpenField.Decoded.takeGroups {covered : Nat} {f : OpenField} {bits : List Bool}
    (h : f.Decoded covered bits) (gs : List Nat) :
    (f.takeGroups covered gs).Decoded covered (bits ++ gs.flatMap (natBits 6)) := by
  induction gs generalizing f bits with
  | nil => simpa [OpenField.takeGroups] using h
  | cons g gs ih =>
    rw [List.flatMap_cons, ← List.append_assoc]
    exact ih (h.takeGroup g)

theorem OpenField.takeGroups_count (covered : Nat) (gs : List Nat) (f : OpenField) :
    (f.takeGroups covered gs).count = f.count + gs.length := by
  induction gs generalizing f with
  | nil => rfl
  | cons g gs ih =>
    have := ih (f.takeGroup covered g)
    rw [OpenField.takeGroup_count] at this
    rw [List.length_cons, show f.count + (gs.length + 1) = f.count + 1 + gs.length by omega, ← this]
    rfl

/-- The groups of a payload decode to the payload, with its check over the covered bytes. -/
theorem OpenField.takeGroups_packGroups (covered : Nat) (payload : List Byte) :
    let f := OpenField.start.takeGroups covered (packGroups payload)
    f.framer = [] ∧ f.count = (packGroups payload).length ∧ f.payload = payload ∧
      f.crc.toNat = crc16From 0xFFFF (payload.take covered) := by
  obtain ⟨hf, ha, hd, hc⟩ := (OpenField.decoded_start covered).takeGroups (packGroups payload)
  obtain ⟨m, hm, hb⟩ := packGroups_bits payload
  rw [hb, List.nil_append] at hd
  have hp := toBits_determined _ _ _ _ ha (by rw [List.length_replicate]; omega) hd
  refine ⟨hf, ?_, hp, by rw [hc, hp]⟩
  rw [OpenField.takeGroups_count]
  exact Nat.zero_add _

/-- The check of a field whose payload ends with the check of its covered bytes is good (01 R6). -/
theorem OpenField.checkGood_of_crc (f : OpenField) (bytes : List Byte)
    (hp : f.payload = bytes ++ be16 (crc16 bytes))
    (hc : f.crc.toNat = crc16From 0xFFFF (f.payload.take bytes.length)) : f.checkGood bytes.length = true := by
  rw [hp, List.take_left, ← crc16_eq] at hc
  rw [OpenField.checkGood, hp, List.drop_left, List.take_of_length_le (by simp), beNat_be16_crc16, hc]
  simp

/-! ## The code table (01 R3) -/

theorem codeByteOk_top (b : Byte) (h : codeByteOk b = true) : b.getLsbD 7 = true := by
  simp only [codeByteOk, recordable, Bool.and_eq_true] at h
  obtain ⟨⟨ht, -⟩, -⟩ := h
  exact ht

/-- The inverse table answers the position of each code byte. -/
theorem buildInverse_code (code : List Byte) (hn : code.Nodup) (g : Nat) (hg : g < code.length) :
    (buildInverse code).getD code[g].toNat none = some g := by
  have hb : byte code[g].toNat = code[g] := by simp [byte]
  have hlt : code[g].toNat < 256 := code[g].isLt
  rw [buildInverse, List.getD_eq_getElem?_getD, List.getElem?_map, List.getElem?_range hlt]
  simp only [Option.map_some, Option.getD_some, hb]
  refine List.findIdx?_eq_some_iff_getElem.2 ⟨hg, by simp, fun j hj => ?_⟩
  simp only [beq_iff_eq]
  exact fun e => absurd ((hn.getElem_inj_iff).1 e) (by omega)

/-! ## The mark search (01 R11, R14) -/

/-- The window of a search that stands at `window` holds the mark after the bits, and not before. -/
def opensAtEnd (mark : BitVec 24) : BitVec 24 → List Bool → Bool
  | _, [] => false
  | window, b :: bs =>
    if shiftWindow window b = mark then bs.isEmpty else opensAtEnd mark (shiftWindow window b) bs

theorem readAddress_mark (inverse : List (Option Nat)) (bits rest : List Bool) (w : BitVec 24) (n : Nat)
    (h : opensAtEnd (markPattern addrId) w bits = true) :
    readAddress inverse ⟨w, n, none⟩ (bits ++ rest) = readAddress inverse ⟨0, 0, some .start⟩ rest := by
  induction bits generalizing w with
  | nil => simp [opensAtEnd] at h
  | cons b bs ih =>
    rw [opensAtEnd] at h
    rw [List.cons_append, readAddress, Reader.search]
    dsimp only
    split at h
    · rw [if_pos ‹_›, List.isEmpty_iff.1 h]
      rfl
    · rw [if_neg ‹_›]
      exact ih _ h

theorem readData_mark (inverse : List (Option Nat)) (bits rest : List Bool) (w : BitVec 24) (n : Nat)
    (hn : n + bits.length ≤ markWindowBits) (h : opensAtEnd (markPattern dataId) w bits = true) :
    readData inverse ⟨w, n, none⟩ (bits ++ rest) = readData inverse ⟨0, 0, some .start⟩ rest := by
  induction bits generalizing w n with
  | nil => simp [opensAtEnd] at h
  | cons b bs ih =>
    rw [opensAtEnd] at h
    rw [List.length_cons] at hn
    rw [List.cons_append, readData, Reader.search]
    dsimp only
    split at h
    · rename_i hw
      rw [if_pos hw, List.isEmpty_iff.1 h]
      rfl
    · rename_i hw
      have hlt : n + 1 < markWindowBits := by
        cases bs with
        | nil => simp [opensAtEnd] at h
        | cons => rw [List.length_cons] at hn; omega
      rw [if_neg hw, if_pos hlt]
      exact ih _ _ (by omega) h

/-! ## The code bytes of a field (01 R12, R13) -/

/-- A reader that takes whole code bytes one by one takes the code bytes of a run of groups. -/
theorem reads_groups {α : Type} (code : List Byte) (codes covered : Nat) (read : OpenField → List Bool → α)
    (hread : ∀ f v g rest, f.framer = [] → f.count < codes → v.getLsbD 7 = true →
      (buildInverse code).getD v.toNat none = some g →
      read f (byteBits v ++ rest) = read (f.takeGroup covered g) rest)
    (hl : code.length = 64) (hn : code.Nodup) (hok : ∀ b ∈ code, codeByteOk b = true) (gs : List Nat)
    (hg : ∀ g ∈ gs, g < 64) (rest : List Bool) (f : OpenField) (hf : f.framer = [])
    (hc : f.count + gs.length ≤ codes) :
    read f (toBits (gs.map fun g => code.getD g 0) ++ rest) = read (f.takeGroups covered gs) rest := by
  induction gs generalizing f with
  | nil => rfl
  | cons g gs ih =>
    have hgl : g < code.length := hl ▸ hg g (by simp)
    rw [List.length_cons] at hc
    rw [List.map_cons, List.getD_eq_getElem _ _ hgl, toBits_cons, List.append_assoc,
      hread f _ g _ hf (by omega) (codeByteOk_top _ (hok _ (List.getElem_mem hgl))) (buildInverse_code code hn g hgl)]
    exact ih (fun x hx => hg x (by simp [hx])) _ (by rw [OpenField.takeGroup_framer, hf])
      (by rw [OpenField.takeGroup_count]; omega)

theorem OpenField.framed_code (inverse : List (Option Nat)) (codes covered g : Nat) (v : Byte) (f : OpenField)
    (hc : f.count < codes) (hg : inverse.getD v.toNat none = some g) :
    f.framed inverse codes covered v = .more (f.takeGroup covered g) := by
  simp only [OpenField.framed, if_pos hc, hg]

theorem OpenField.framed_trailer (inverse : List (Option Nat)) (codes covered : Nat) (f : OpenField)
    (hc : f.count = codes) : f.framed inverse codes covered trailer = .trailer := by
  simp [OpenField.framed, hc]

section
variable (code : List Byte) (rest : List Bool) (hl : code.length = 64) (hn : code.Nodup)
  (hok : ∀ b ∈ code, codeByteOk b = true)
include hl hn hok

/-- An open address field, from its first code byte to its TRAILER. -/
theorem readAddress_field (bytes : List Byte) (hb : bytes.length = 4) :
    readAddress (buildInverse code) ⟨0, 0, some .start⟩
      (toBits (codeBytes code (bytes ++ be16 (crc16 bytes)) ++ [trailer]) ++ rest) =
        .good (.ofPayload (bytes ++ be16 (crc16 bytes))) := by
  obtain ⟨hf, hc, hp, hcrc⟩ := OpenField.takeGroups_packGroups 4 (bytes ++ be16 (crc16 bytes))
  have h8 : (packGroups (bytes ++ be16 (crc16 bytes))).length = 8 := by
    rw [packGroups_length, List.length_append, hb, be16_length]
  have hgood := OpenField.checkGood_of_crc _ bytes hp (by rw [hb, hcrc, hp])
  rw [hb] at hgood
  rw [toBits_append, List.append_assoc, codeBytes,
    reads_groups code 8 4 (fun f bits => readAddress (buildInverse code) ⟨0, 0, some f⟩ bits)
      (fun f v g rest hf hc hv hg => by
        rw [readAddress_byte _ _ _ f v rest hf hv, OpenField.framed_code _ _ _ g v f hc hg])
      hl hn hok _ (packGroups_lt _) _ .start rfl (by rw [h8]; rfl), toBits_singleton,
    readAddress_byte _ _ _ _ trailer rest hf (by decide), OpenField.framed_trailer _ _ _ _ (hc.trans h8)]
  simp only [hgood, if_true, hp]

/-- An open data field, from its first code byte to its TRAILER. -/
theorem readData_field (data : List Byte) (hd : data.length = 512) :
    readData (buildInverse code) ⟨0, 0, some .start⟩
      (toBits (codeBytes code (data ++ be16 (crc16 data)) ++ [trailer]) ++ rest) = .whole data true := by
  obtain ⟨hf, hc, hp, hcrc⟩ := OpenField.takeGroups_packGroups 512 (data ++ be16 (crc16 data))
  have h686 : (packGroups (data ++ be16 (crc16 data))).length = 686 := by
    rw [packGroups_length, List.length_append, hd, be16_length]
  have hgood := OpenField.checkGood_of_crc _ data hp (by rw [hd, hcrc, hp])
  rw [hd] at hgood
  rw [toBits_append, List.append_assoc, codeBytes,
    reads_groups code 686 512 (fun f bits => readData (buildInverse code) ⟨0, 0, some f⟩ bits)
      (fun f v g rest hf hc hv hg => by
        rw [readData_byte _ _ _ f v rest hf hv, OpenField.framed_code _ _ _ g v f hc hg, Config.pageBytes])
      hl hn hok _ (packGroups_lt _) _ .start rfl (by rw [h686]; rfl), toBits_singleton,
    readData_byte _ _ _ _ trailer rest hf (by decide), OpenField.framed_trailer _ _ _ _ (hc.trans h686)]
  simp only [OpenField.data, Config.pageBytes, hgood, hp, List.take_left' hd]

end

/-- The sector an address payload names is the one it was made from (01 R7). -/
theorem SectorId.ofPayload_covered (id : SectorId) (check : List Byte) (hc : id.cylinder < 256) (hh : id.head < 256)
    (hs : id.sector < 256) (hz : id.zone < 256) : SectorId.ofPayload (id.covered ++ check) = id := by
  simp [SectorId.ofPayload, SectorId.covered, byteAt, Nat.mod_eq_of_lt, hc, hh, hs, hz]

/-- Gap 1 and the mark of an address field open it (01 R7, R9). -/
theorem gap1_opens :
    opensAtEnd (markPattern addrId) 0 (toBits (List.replicate 8 0xFF ++ [markA, markB, addrId])) = true := by
  decide

/-- Gap 2 and the mark of a data field open it (01 R8, R9). -/
theorem gap2_opens :
    opensAtEnd (markPattern dataId) 0 (toBits (List.replicate 6 0xFF ++ [markA, markB, dataId])) = true := by
  decide

/-- Settles O57: the mark opens the field, its groups decode to the payload, and its check is good. -/
theorem recordedFieldsReadBack : Obligations.RecordedFieldsReadBack := by
  intro code rest hl hn hok
  refine ⟨fun id hc hh hs hz => ?_, fun data hd => ?_⟩
  · rw [addressField, List.append_assoc, ← List.append_assoc, toBits_append, List.append_assoc, Reader.clear,
      readAddress_mark _ _ _ _ _ gap1_opens, readAddress_field code rest hl hn hok id.covered rfl,
      SectorId.ofPayload_covered id _ hc hh hs hz]
  · rw [dataField, List.append_assoc, ← List.append_assoc, toBits_append, List.append_assoc, Reader.clear,
      readData_mark _ _ _ _ _ (by decide) gap2_opens, readData_field code rest hl hn hok data hd]

end Sys2Proof.Machine
end

section
/-!
PROOFS. Block addressing (02 R28 to R33): the derived record of a zone, the zone of an LBA, the sectors a run of
cylinders holds, and the slot a map names. Zones that follow one another on the cylinders share no home location.
-/

namespace Sys2Proof.Machine

/-! ## Derived zone records (02 R28, R29) -/

/-- The first LBA of zone `i`: the blocks of the zones before it (02 R28). -/
def firstLba (zs : List Zone) (i : Nat) : Nat := ((zs.take i).map Zone.dataCapacity).sum

@[simp] theorem firstLba_zero (zs : List Zone) : firstLba zs 0 = 0 := rfl

@[simp] theorem firstLba_cons_succ (z : Zone) (zs : List Zone) (i : Nat) :
    firstLba (z :: zs) (i + 1) = z.dataCapacity + firstLba zs i := by simp [firstLba]

/-- The record of a zone whose first LBA is `first` (02 R28). -/
def Zone.derived (z : Zone) (first : Nat) : ZoneRec where
  firstLba := first
  dataCapacity := z.dataCapacity
  spareSlots := z.spareSlots
  firstSpareCyl := z.firstCyl + z.cylCount - z.spareCyl
  lastCyl := z.lastCyl

theorem deriveFrom_cons (first : Nat) (z : Zone) (zs : List Zone) :
    deriveFrom first (z :: zs) = z.derived first :: deriveFrom (first + z.dataCapacity) zs := rfl

theorem deriveFrom_getElem? (first : Nat) (zs : List Zone) (i : Nat) :
    (deriveFrom first zs)[i]? = zs[i]?.map fun z => z.derived (first + firstLba zs i) := by
  induction zs generalizing first i with
  | nil => rfl
  | cons z zs ih => cases i <;> simp [deriveFrom_cons, ih, Nat.add_assoc]

/-- The blocks of a zone table (02 R29). -/
theorem deriveFrom_dataCapacity (first : Nat) (zs : List Zone) :
    (deriveFrom first zs).map (·.dataCapacity) = zs.map Zone.dataCapacity := by
  induction zs generalizing first with
  | nil => rfl
  | cons z zs ih => simp [deriveFrom_cons, Zone.derived, ih]

/-! ## The zone of an LBA (02 R31) -/

/-- LBA `n` is one of the blocks of zone `i`, which is `z`. -/
def InZone (zs : List Zone) (i : Nat) (z : Zone) (n : Nat) : Prop :=
  zs[i]? = some z ∧ firstLba zs i ≤ n ∧ n < firstLba zs i + z.dataCapacity

/-- The ranges of the zones before zone `i` end where its own begins, so its record is the first that holds `n`. -/
theorem zoneOfLba_deriveFrom (first : Nat) (zs : List Zone) (i n : Nat) (z : Zone) (h : InZone zs i z n) :
    zoneOfLba (deriveFrom first zs) (first + n) = some i := by
  obtain ⟨hz, hlo, hhi⟩ := h
  induction zs generalizing first i n with
  | nil => simp at hz
  | cons y ys ih =>
    rw [deriveFrom_cons, zoneOfLba, List.findIdx?_cons]
    cases i with
    | zero =>
      obtain rfl : y = z := by simpa using hz
      rw [firstLba_zero] at hhi
      rw [if_pos (by simp [Zone.derived]; omega)]
    | succ i =>
      rw [firstLba_cons_succ] at hlo hhi
      have hrest : zoneOfLba (deriveFrom (first + y.dataCapacity) ys) (first + n) = some i := by
        have := ih (first + y.dataCapacity) i (n - y.dataCapacity) hz (by omega) (by omega)
        rwa [show first + y.dataCapacity + (n - y.dataCapacity) = first + n by omega] at this
      rw [if_neg (by simp [Zone.derived]; omega)]
      exact congrArg (Option.map (· + 1)) hrest

/-- Every LBA below the capacity lies in a zone (02 R29, R31). -/
theorem inZone_of_lt (zs : List Zone) (n : Nat) (h : n < (zs.map Zone.dataCapacity).sum) : ∃ i z, InZone zs i z n := by
  induction zs generalizing n with
  | nil => simp at h
  | cons y ys ih =>
    rw [List.map_cons, List.sum_cons] at h
    by_cases hy : n < y.dataCapacity
    · exact ⟨0, y, rfl, Nat.zero_le n, by simpa using hy⟩
    · obtain ⟨i, z, hz, hlo, hhi⟩ := ih (n - y.dataCapacity) (by omega)
      exact ⟨i + 1, z, hz, by rw [firstLba_cons_succ]; omega, by rw [firstLba_cons_succ]; omega⟩

section
variable (t : Tables) (hrecs : t.zoneRecs = deriveZones t.zones)
include hrecs

theorem Tables.capacity_eq : t.capacity = (t.zones.map Zone.dataCapacity).sum := by
  rw [Tables.capacity, hrecs, deriveZones, deriveFrom_dataCapacity]

variable (i n : Nat) (z : Zone) (h : InZone t.zones i z n)

theorem Tables.recAt_eq (hz : t.zones[i]? = some z) : t.recAt i = z.derived (firstLba t.zones i) := by
  rw [Tables.recAt, hrecs, deriveZones, List.getD_eq_getElem?_getD, deriveFrom_getElem?, hz, Nat.zero_add]
  rfl

include h

theorem Tables.lbaZone_eq : t.lbaZone n = i := by
  have := zoneOfLba_deriveFrom 0 t.zones i n z h
  rw [Nat.zero_add] at this
  rw [Tables.lbaZone, hrecs, deriveZones, this, Option.getD_some]

omit hrecs in
theorem Tables.zoneAt_eq : t.zoneAt i = z := by rw [Tables.zoneAt, List.getD_eq_getElem?_getD, h.1, Option.getD_some]

/-- The home location of a block of zone `i` (02 R31). -/
theorem Tables.homeLocation_eq : t.homeLocation n = locate z.firstCyl z.spt (n - firstLba t.zones i) := by
  rw [Tables.homeLocation, t.lbaZone_eq hrecs i n z h, t.zoneAt_eq i n z h, t.recAt_eq hrecs i z h.1, Zone.derived]

/-- The location of a slot of zone `i` (02 R32). -/
theorem Tables.slotLocation_eq (slot : Nat) :
    t.slotLocation i slot = locate (z.firstCyl + z.cylCount - z.spareCyl) z.spt slot := by
  rw [Tables.slotLocation, t.zoneAt_eq i n z h, t.recAt_eq hrecs i z h.1, Zone.derived]

end

/-! ## Sectors of a run of cylinders (02 R31, R32) -/

/-- The quotient by the sectors of a track splits into cylinder and head; with the sector they give the number back. -/
theorem locate_injective (first spt n m : Nat) (h : locate first spt n = locate first spt m) : n = m := by
  simp only [locate, Location.mk.injEq] at h
  obtain ⟨hcyl, hhead, hsector⟩ := h
  have htrack : n / spt = m / spt := by omega
  rw [← Nat.div_add_mod n spt, ← Nat.div_add_mod m spt, htrack, hsector]

/-- The home sectors of a zone lie on its own cylinders. -/
theorem Zone.locate_cylinder (z : Zone) (k : Nat) (h : k < z.dataCapacity) :
    z.firstCyl ≤ (locate z.firstCyl z.spt k).cylinder ∧
    (locate z.firstCyl z.spt k).cylinder < z.firstCyl + z.cylCount := by
  have htrack : k / z.spt < (z.cylCount - z.spareCyl) * 2 := Nat.div_lt_of_lt_mul (by
    rwa [Zone.dataCapacity, Nat.mul_comm] at h)
  simp only [locate]
  generalize k / z.spt = track at *
  omega

/-- Zones that follow one another on the cylinders: a block of an earlier zone lies on a lower cylinder. -/
theorem homeCylinder_lt (zs : List Zone) (hzs : zs.Pairwise fun a b => a.firstCyl + a.cylCount ≤ b.firstCyl)
    (i j n m : Nat) (y z : Zone) (hn : InZone zs i y n) (hm : InZone zs j z m) (hij : i < j) :
    (locate y.firstCyl y.spt (n - firstLba zs i)).cylinder < (locate z.firstCyl z.spt (m - firstLba zs j)).cylinder := by
  obtain ⟨hy, hylo, hyhi⟩ := hn
  obtain ⟨hz, hzlo, hzhi⟩ := hm
  obtain ⟨hi, rfl⟩ := List.getElem?_eq_some_iff.1 hy
  obtain ⟨hj, rfl⟩ := List.getElem?_eq_some_iff.1 hz
  have hfollow := List.pairwise_iff_getElem.1 hzs i j hi hj hij
  have hlow := (Zone.locate_cylinder zs[i] (n - firstLba zs i) (by omega)).2
  have hhigh := (Zone.locate_cylinder zs[j] (m - firstLba zs j) (by omega)).1
  omega

/-- No two blocks share a home location. -/
theorem homeLocation_injective (t : Tables) (hrecs : t.zoneRecs = deriveZones t.zones)
    (hzs : t.zones.Pairwise fun a b => a.firstCyl + a.cylCount ≤ b.firstCyl) (n m : Nat)
    (hn : n < t.capacity) (hm : m < t.capacity) (h : t.homeLocation n = t.homeLocation m) : n = m := by
  rw [t.capacity_eq hrecs] at hn hm
  obtain ⟨i, y, hy⟩ := inZone_of_lt t.zones n hn
  obtain ⟨j, z, hz⟩ := inZone_of_lt t.zones m hm
  rw [t.homeLocation_eq hrecs i n y hy, t.homeLocation_eq hrecs j m z hz] at h
  rcases Nat.lt_trichotomy i j with hij | rfl | hij
  · exact absurd (congrArg Location.cylinder h) (homeCylinder_lt t.zones hzs i j n m y z hy hz hij).ne
  · obtain rfl : y = z := Option.some.inj (hy.1.symm.trans hz.1)
    have hsame := locate_injective _ _ _ _ h
    obtain ⟨-, hylo, -⟩ := hy
    obtain ⟨-, hzlo, -⟩ := hz
    omega
  · exact absurd (congrArg Location.cylinder h) (homeCylinder_lt t.zones hzs j i m n z y hz hy hij).ne'

/-! ## The slot a map names (02 R33) -/

theorem remapSlot_eq_none (map : List Defect) (n : Nat) (h : ∀ slot o, .remap n slot o ∉ map) :
    remapSlot map n = none := by
  refine List.findSome?_eq_none_iff.2 fun d hd => ?_
  cases d with
  | remap lba slot o => exact if_neg fun hlba : lba = n => h slot o (hlba ▸ hd)
  | retire zone slot o => rfl

/-- The first REMAP entry of an LBA names its slot. -/
theorem remapSlot_eq_some (older younger : List Defect) (n slot : Nat) (o : Origin)
    (h : ∀ k o, .remap n k o ∉ older) : remapSlot (older ++ .remap n slot o :: younger) n = some slot := by
  have hnone := remapSlot_eq_none older n h
  rw [remapSlot] at hnone ⊢
  simp [List.findSome?_append, hnone]

/-! ## The placement of an LBA (02 R33) -/

/-- Settles O58: the placement by the zone of the LBA and the first REMAP entry that names it. -/
theorem blocksArePlaced : Obligations.BlocksArePlaced := by
  refine ⟨fun t n i z hrecs hz => ?_, fun t n m hrecs hzs _ => homeLocation_injective t hrecs hzs n m⟩
  intro blocks first hlo hhi at'
  have h : InZone t.zones i z n := ⟨hz, hlo, hhi⟩
  refine ⟨fun hnone => ?_, fun older slot o younger hmap holder => ?_⟩
  · simp only [Tables.placement, remapSlot_eq_none t.map n hnone, t.homeLocation_eq hrecs i n z h,
      t.lbaZone_eq hrecs i n z h, t.zoneAt_eq i n z h]
    rfl
  · simp only [Tables.placement, hmap, remapSlot_eq_some older younger n slot o holder,
      t.slotLocation_eq hrecs i n z h, t.lbaZone_eq hrecs i n z h, t.zoneAt_eq i n z h]
    rfl

end Sys2Proof.Machine
end

section
/-!
PROOFS. What LOAD_CLOSE and COMMIT accept and refuse of a table (02 R23 to R27; 03 R39, R40; 10 R176, R179). Each check
reads its entries in index order and carries something of those read; `scan_at` brings such a check to its entry `n`
once the entries below `n` have passed, and what each check then asks of that entry is said once.
-/

namespace Sys2Proof.Machine

/-! ## Checks that read entries in index order -/

section
variable {α σ γ : Type} (scan : Nat → σ → List α → γ) (carried : Nat → σ) (xs : List α)

/-- A check that goes on past every entry below `n` arrives at `n` with what it carries there. -/
theorem scan_reaches (n : Nat) (hn : n ≤ xs.length)
    (hpass : ∀ j x rest, j < n → xs[j]? = some x →
      scan j (carried j) (x :: rest) = scan (j + 1) (carried (j + 1)) rest) :
    scan 0 (carried 0) xs = scan n (carried n) (xs.drop n) := by
  induction n with
  | zero => rfl
  | succ n ih =>
    rw [ih (by omega) fun j x rest hj => hpass j x rest (by omega), List.drop_eq_getElem_cons (by omega),
      hpass n _ _ (by omega) (List.getElem?_eq_getElem _)]

theorem scan_at (n : Nat) (x : α) (hx : xs[n]? = some x)
    (hpass : ∀ j x rest, j < n → xs[j]? = some x →
      scan j (carried j) (x :: rest) = scan (j + 1) (carried (j + 1)) rest) :
    scan 0 (carried 0) xs = scan n (carried n) (x :: xs.drop (n + 1)) := by
  obtain ⟨hn, rfl⟩ := List.getElem?_eq_some_iff.1 hx
  rw [scan_reaches scan carried xs n hn.le hpass, List.drop_eq_getElem_cons hn]

theorem scan_end (hpass : ∀ j x rest, j < xs.length → xs[j]? = some x →
      scan j (carried j) (x :: rest) = scan (j + 1) (carried (j + 1)) rest) :
    scan 0 (carried 0) xs = scan xs.length (carried xs.length) [] := by
  rw [scan_reaches scan carried xs _ le_rfl hpass, List.drop_length]

end

/-- The entry before entry `i`. -/
def entryBefore {α : Type} (xs : List α) : Nat → Option α
  | 0 => none
  | j + 1 => xs[j]?

/-- What is asked of the entry before entry `j + 1`. -/
theorem forall_entryBefore {α : Type} (xs : List α) (j : Nat) (p : α) (hj : xs[j]? = some p) (Q : α → Prop) :
    (∀ k q, j + 1 = k + 1 → xs[k]? = some q → Q q) ↔ Q p := by
  refine ⟨fun h => h j p rfl hj, fun h k q hk hq => ?_⟩
  obtain rfl : j = k := Nat.succ.inj hk
  obtain rfl : p = q := Option.some.inj (hj.symm.trans hq)
  exact h

/-- What the entries below `i` name, the last one first. -/
def namedBefore {α κ : Type} (f : α → Option κ) (xs : List α) (i : Nat) : List κ := ((xs.take i).filterMap f).reverse

theorem namedBefore_succ {α κ : Type} (f : α → Option κ) (xs : List α) (i : Nat) (x : α) (k : κ)
    (hx : xs[i]? = some x) (hk : f x = some k) : namedBefore f xs (i + 1) = k :: namedBefore f xs i := by
  simp [namedBefore, List.take_add_one, hx, hk]

theorem mem_namedBefore {α κ : Type} (f : α → Option κ) (xs : List α) (i : Nat) (k : κ) :
    k ∈ namedBefore f xs i ↔ ∃ j x, j < i ∧ xs[j]? = some x ∧ f x = some k := by
  rw [namedBefore, List.mem_reverse, List.mem_filterMap]
  simp only [List.mem_iff_getElem?, List.getElem?_take]
  constructor
  · rintro ⟨x, ⟨j, hj⟩, hk⟩
    split at hj
    · exact ⟨j, x, ‹_›, hj, hk⟩
    · cases hj
  · rintro ⟨j, x, hj, hx, hk⟩
    exact ⟨x, ⟨j, by rw [if_pos hj, hx]⟩, hk⟩

/-- Every entry below `i` passes its own checks, then those against the entries before it. -/
def Passed (alone : List Byte → Prop) (fits : List (List Byte) → Nat → List Byte → Prop) (es : List (List Byte))
    (i : Nat) : Prop :=
  ∀ j p, j < i → es[j]? = some p → alone p ∧ fits es j p

/-! ## Fields of an entry -/

/-- Byte `i` of an entry as a number. -/
def fieldAt (e : List Byte) (i : Nat) : Nat := (byteAt e i).toNat

theorem byteAt_toNat (e : List Byte) (i : Nat) : (byteAt e i).toNat = fieldAt e i := rfl

theorem fieldAt_le (e : List Byte) (i : Nat) : fieldAt e i ≤ 255 := by
  have := (byteAt e i).isLt
  rw [fieldAt]
  omega

theorem byteAt_eq_iff (e : List Byte) (i : Nat) (b : Byte) : byteAt e i = b ↔ fieldAt e i = b.toNat :=
  (BitVec.toNat_inj).symm

theorem within_iff (lo n hi : Nat) : within lo n hi = true ↔ lo ≤ n ∧ n ≤ hi := by simp [within]

/-- Only the two low bits are set (02 R23, flags). -/
theorem lowFlags_iff (b : Byte) : b &&& 0xFC = 0 ↔ b.toNat ≤ 3 := by revert b; decide

/-- The bits between write_lock and spare_cyl are 0 (02 R25). -/
theorem spareBits_iff (b : Byte) : b &&& 0x78 = 0 ↔ b.toNat % 128 < 8 := by revert b; decide

/-! ## DEVICE (02 R23) -/

/-- The ranges of a device record. -/
def DeviceOk (e : List Byte) : Prop :=
  40 ≤ fieldAt e 0 ∧ fieldAt e 1 ≤ 3 ∧ 2 ≤ fieldAt e 2 ∧ fieldAt e 2 ≤ 20 ∧ 5 ≤ fieldAt e 3 ∧ fieldAt e 3 ≤ 60 ∧
  1 ≤ fieldAt e 4 ∧ fieldAt e 4 ≤ 30 ∧ 1 ≤ fieldAt e 5 ∧ fieldAt e 5 ≤ 10 ∧ 32 ≤ fieldAt e 7 ∧ 1 ≤ fieldAt e 8 ∧
  fieldAt e 8 ≤ 4 ∧ fieldAt e 9 ≤ 15 ∧ fieldAt e 10 ≤ 7 ∧ fieldAt e 11 ≤ 3 ∧ 1 ≤ fieldAt e 13 ∧ fieldAt e 13 ≤ 60 ∧
  fieldAt e 14 ≤ 60 ∧ fieldAt e 15 = 0

theorem deviceEntryOk_iff (e : List Byte) : deviceEntryOk e = true ↔ DeviceOk e := by
  have hcylinders := fieldAt_le e 0
  have hstart := fieldAt_le e 7
  simp only [deviceEntryOk, Device.ofBytes, Bool.and_eq_true, within_iff, beq_iff_eq, lowFlags_iff, byteAt_eq_iff e 15,
    byteAt_toNat, show (0 : Byte).toNat = 0 from rfl, DeviceOk]
  omega

/-! ## ZONE (02 R25, R26) -/

def zoneRpm (e : List Byte) : Nat := fieldAt e 2 * 256 + fieldAt e 3

/-- 02 R25. -/
def ZoneAlone (e : List Byte) : Prop :=
  fieldAt e 0 ≤ 254 ∧ 2 ≤ fieldAt e 1 ∧ 600 ≤ zoneRpm e ∧ zoneRpm e ≤ 2400 ∧ 4 ≤ fieldAt e 4 ∧ fieldAt e 4 ≤ 32 ∧
  8 ≤ fieldAt e 5 ∧ fieldAt e 5 ≤ 64 ∧ fieldAt e 6 % 128 ≤ 4 ∧ fieldAt e 6 % 128 < fieldAt e 1 ∧
  fieldAt e 0 + fieldAt e 1 - 1 ≤ 254

/-- 02 R26. -/
def ZoneFits (es : List (List Byte)) (i : Nat) (e : List Byte) : Prop :=
  (i = 0 → fieldAt e 0 = 0) ∧
  ∀ j p, i = j + 1 → es[j]? = some p → fieldAt e 0 = fieldAt p 0 + fieldAt p 1 ∧ zoneRpm p ≤ zoneRpm e

theorem zoneEntryOk_iff (e : List Byte) : zoneEntryOk e = true ↔ ZoneAlone e := by
  have hcount := fieldAt_le e 1
  simp only [zoneEntryOk, Bool.and_eq_true, within_iff, beq_iff_eq, decide_eq_true_eq, spareBits_iff]
  simp only [Zone.ofBytes, Zone.lastCyl, byteAt_toNat, ZoneAlone, zoneRpm]
  omega

/-- The zone before has at least two cylinders, so its last one is followed by the next zone's first. -/
theorem zoneFollows_iff (es : List (List Byte)) (i : Nat) (e : List Byte) (hi : i ≤ es.length)
    (hp : Passed ZoneAlone ZoneFits es i) :
    zoneFollows ((entryBefore es i).map .ofBytes) (.ofBytes e) = true ↔ ZoneFits es i e := by
  cases i with
  | zero => simp [entryBefore, zoneFollows, ZoneFits, Zone.ofBytes, fieldAt]
  | succ j =>
    obtain ⟨p, hj⟩ : ∃ p, es[j]? = some p := ⟨_, List.getElem?_eq_getElem (by omega)⟩
    obtain ⟨-, hcount, -⟩ := (hp j p (by omega) hj).1
    have hnext : fieldAt p 0 + fieldAt p 1 - 1 + 1 = fieldAt p 0 + fieldAt p 1 := by omega
    rw [ZoneFits, forall_entryBefore es j p hj fun p => fieldAt e 0 = fieldAt p 0 + fieldAt p 1 ∧ zoneRpm p ≤ zoneRpm e]
    simp [entryBefore, zoneFollows, Zone.ofBytes, Zone.lastCyl, byteAt_toNat, zoneRpm, hj, hnext]

theorem checkZonesFrom_cons (i : Nat) (prev : Option Zone) (e : List Byte) (es : List (List Byte)) :
    checkZonesFrom i prev (e :: es) =
      if zoneEntryOk e = true then
        if zoneFollows prev (.ofBytes e) = true then checkZonesFrom (i + 1) (some (.ofBytes e)) es
        else some ⟨.order, i⟩
      else some ⟨.field, i⟩ := by
  rw [checkZonesFrom]
  cases zoneEntryOk e <;> cases zoneFollows prev (.ofBytes e) <;> rfl

section
variable (es : List (List Byte)) (i : Nat) (hp : Passed ZoneAlone ZoneFits es i)
include hp

/-- The scan carries the entry before. -/
theorem checkZonesFrom_passes (j : Nat) (p : List Byte) (rest : List (List Byte)) (hj : j < i) (hpj : es[j]? = some p) :
    checkZonesFrom j ((entryBefore es j).map .ofBytes) (p :: rest) =
      checkZonesFrom (j + 1) ((entryBefore es (j + 1)).map .ofBytes) rest := by
  obtain ⟨halone, hfits⟩ := hp j p hj hpj
  have hlen := (List.getElem?_eq_some_iff.1 hpj).1
  rw [checkZonesFrom_cons, if_pos ((zoneEntryOk_iff p).2 halone),
    if_pos ((zoneFollows_iff es j p hlen.le fun k q hk => hp k q (by omega)).2 hfits), entryBefore, hpj, Option.map_some]

theorem checkTable_zone_refuses (e : List Byte) (he : es[i]? = some e) :
    (¬ ZoneAlone e → checkTable .zone es = some ⟨.field, i⟩) ∧
    (ZoneAlone e → ¬ ZoneFits es i e → checkTable .zone es = some ⟨.order, i⟩) := by
  have hlen := (List.getElem?_eq_some_iff.1 he).1
  have hat : checkTable .zone es = _ := (if_neg (by cases es <;> simp at hlen ⊢)).trans
    (scan_at checkZonesFrom (fun j => (entryBefore es j).map .ofBytes) es i e he (checkZonesFrom_passes es i hp))
  rw [hat, checkZonesFrom_cons]
  refine ⟨fun h => ?_, fun h hf => ?_⟩
  · rw [if_neg (mt (zoneEntryOk_iff e).1 h)]
  · rw [if_pos ((zoneEntryOk_iff e).2 h), if_neg (mt (zoneFollows_iff es i e hlen.le hp).1 hf)]

end

theorem checkTable_zone_accepts (es : List (List Byte)) (hne : es ≠ [])
    (hp : Passed ZoneAlone ZoneFits es es.length) : checkTable .zone es = none :=
  (if_neg (by simpa using hne)).trans
    (scan_end checkZonesFrom (fun j => (entryBefore es j).map .ofBytes) es (checkZonesFrom_passes es es.length hp))

/-! ## CODE (10 R176) -/

/-- Recordable and not reserved (01 R1, R2). -/
def CodeAlone (e : List Byte) : Prop :=
  (byteAt e 0).getLsbD 7 = true ∧ (∀ k < 6, ∃ j < 3, (byteAt e 0).getLsbD (k + j) = true) ∧
  byteAt e 0 ∉ ([0xFF, 0xE6, 0xB3, 0x9D, 0xCB, 0xEB] : List Byte)

/-- Distinct from every lower entry. -/
def CodeFits (es : List (List Byte)) (i : Nat) (e : List Byte) : Prop :=
  ∀ j p, j < i → es[j]? = some p → byteAt p 0 ≠ byteAt e 0

theorem noZeroRun_iff (b : Byte) : noZeroRun b = true ↔ ∀ k < 6, ∃ j < 3, b.getLsbD (k + j) = true := by
  have hthree : ∀ k, (∃ j < 3, b.getLsbD (k + j) = true) ↔
      (b.getLsbD k = true ∨ b.getLsbD (k + 1) = true) ∨ b.getLsbD (k + 2) = true := fun k => by
    simp only [Nat.exists_lt_succ_right, Nat.not_lt_zero, false_and, exists_false, false_or, Nat.add_zero]
  simp only [noZeroRun, List.all_eq_true, List.mem_range, Bool.or_eq_true, hthree]

theorem codeByteOk_iff (e : List Byte) : codeByteOk (byteAt e 0) = true ↔ CodeAlone e := by
  simp only [codeByteOk, recordable, Bool.and_eq_true, noZeroRun_iff, Bool.not_eq_true', List.contains_eq_mem,
    decide_eq_false_iff_not, and_assoc, CodeAlone]
  rfl

/-- The code bytes below entry `i`. -/
def codesBefore (es : List (List Byte)) (i : Nat) : List Byte := namedBefore (fun e => some (byteAt e 0)) es i

theorem codesBefore_contains (es : List (List Byte)) (i : Nat) (e : List Byte) :
    (codesBefore es i).contains (byteAt e 0) = false ↔ CodeFits es i e := by
  rw [List.contains_eq_mem, decide_eq_false_iff_not, codesBefore, mem_namedBefore, CodeFits]
  refine ⟨fun h j p hj hp heq => h ⟨j, p, hj, hp, congrArg some heq⟩, ?_⟩
  rintro h ⟨j, p, hj, hp, hk⟩
  exact h j p hj hp (Option.some.inj hk)

theorem codesBefore_succ (es : List (List Byte)) (i : Nat) (e : List Byte) (he : es[i]? = some e) :
    codesBefore es (i + 1) = byteAt e 0 :: codesBefore es i := namedBefore_succ _ es i e _ he rfl

/-- The check of the code table over the entries themselves. -/
def checkCodeEntries (i : Nat) (seen : List Byte) (es : List (List Byte)) : Option Rejection :=
  checkCodeFrom i seen (es.map (byteAt · 0))

theorem checkCodeEntries_cons (i : Nat) (seen : List Byte) (e : List Byte) (es : List (List Byte)) :
    checkCodeEntries i seen (e :: es) =
      if codeByteOk (byteAt e 0) = true then
        if seen.contains (byteAt e 0) = false then checkCodeEntries (i + 1) (byteAt e 0 :: seen) es
        else some ⟨.duplicate, i⟩
      else some ⟨.field, i⟩ := by
  rw [checkCodeEntries, List.map_cons, checkCodeFrom]
  cases codeByteOk (byteAt e 0) <;> cases seen.contains (byteAt e 0) <;> rfl

theorem checkTable_code_short (es : List (List Byte)) (h : es.length < 64) :
    checkTable .code es = some ⟨.tooFew, es.length⟩ := if_pos h

theorem checkTable_code_eq (es : List (List Byte)) (h : 64 ≤ es.length) :
    checkTable .code es = checkCodeEntries 0 (codesBefore es 0) es := if_neg h.not_gt

section
variable (es : List (List Byte)) (i : Nat) (hp : Passed CodeAlone CodeFits es i)
include hp

/-- The scan carries the code bytes read. -/
theorem checkCodeEntries_passes (j : Nat) (p : List Byte) (rest : List (List Byte)) (hj : j < i)
    (hpj : es[j]? = some p) : checkCodeEntries j (codesBefore es j) (p :: rest) =
      checkCodeEntries (j + 1) (codesBefore es (j + 1)) rest := by
  obtain ⟨halone, hfits⟩ := hp j p hj hpj
  rw [checkCodeEntries_cons, if_pos ((codeByteOk_iff p).2 halone), if_pos ((codesBefore_contains es j p).2 hfits),
    codesBefore_succ es j p hpj]

theorem checkTable_code_refuses (e : List Byte) (hlen : 64 ≤ es.length) (he : es[i]? = some e) :
    (¬ CodeAlone e → checkTable .code es = some ⟨.field, i⟩) ∧
    (CodeAlone e → ¬ CodeFits es i e → checkTable .code es = some ⟨.duplicate, i⟩) := by
  rw [checkTable_code_eq es hlen,
    scan_at checkCodeEntries (codesBefore es) es i e he (checkCodeEntries_passes es i hp), checkCodeEntries_cons]
  refine ⟨fun h => ?_, fun h hf => ?_⟩
  · rw [if_neg (mt (codeByteOk_iff e).1 h)]
  · rw [if_pos ((codeByteOk_iff e).2 h), if_neg (mt (codesBefore_contains es i e).1 hf)]

end

theorem checkTable_code_accepts (es : List (List Byte)) (hlen : 64 ≤ es.length)
    (hp : Passed CodeAlone CodeFits es es.length) : checkTable .code es = none :=
  (checkTable_code_eq es hlen).trans
    (scan_end checkCodeEntries (codesBefore es) es (checkCodeEntries_passes es es.length hp))

/-! ## DEFECT (03 R39, R41) -/

def defectLba (e : List Byte) : Nat := fieldAt e 2 * 65536 + fieldAt e 3 * 256 + fieldAt e 4

/-- Kind, origin and ranges (03 R39 check 1). -/
def DefectAlone (e : List Byte) : Prop :=
  (fieldAt e 1 = 1 ∨ fieldAt e 1 = 2) ∧
  (fieldAt e 0 = 1 ∧ defectLba e ≤ 16319 ∨
    fieldAt e 0 = 2 ∧ fieldAt e 2 ≤ 7 ∧ fieldAt e 3 = 0 ∧ fieldAt e 4 = 0)

/-- The order of the map as one number: REMAP by LBA, then RETIRE by zone and slot (03 R41). -/
def defectKey (e : List Byte) : Nat :=
  if fieldAt e 0 = 1 then defectLba e else 16777216 + fieldAt e 2 * 256 + fieldAt e 5

/-- Above the entry before. -/
def DefectFits (es : List (List Byte)) (i : Nat) (e : List Byte) : Prop :=
  ∀ j p, i = j + 1 → es[j]? = some p → defectKey p < defectKey e

theorem beNat_lba (e : List Byte) : beNat [byteAt e 2, byteAt e 3, byteAt e 4] = defectLba e := by
  simp [beNat, defectLba, fieldAt, Nat.add_mul, Nat.mul_assoc]

theorem defectEntryOk_iff (e : List Byte) : defectEntryOk e = true ↔ DefectAlone e := by
  simp only [defectEntryOk, Bool.and_eq_true, Bool.or_eq_true, beq_iff_eq, decide_eq_true_eq, byteAt_eq_iff, beNat_lba,
    and_assoc, DefectAlone]
  rfl

theorem Defect.ofBytes_eq (e : List Byte) : Defect.ofBytes e =
    if fieldAt e 0 = 1 then .remap (defectLba e) (fieldAt e 5) (.ofByte (byteAt e 1))
    else .retire (fieldAt e 2) (fieldAt e 5) (.ofByte (byteAt e 1)) := by
  rw [Defect.ofBytes, beNat_lba]
  exact if_congr (byteAt_eq_iff e 0 1) rfl rfl

theorem defectLba_lt (e : List Byte) : defectLba e < 16777216 := by
  have h2 := fieldAt_le e 2
  have h3 := fieldAt_le e 3
  have h4 := fieldAt_le e 4
  rw [defectLba]
  omega

theorem sameKey_iff (p e : List Byte) :
    (Defect.ofBytes p).sameKey (.ofBytes e) = true ↔ defectKey p = defectKey e := by
  have hp := defectLba_lt p
  have he := defectLba_lt e
  have hps := fieldAt_le p 5
  have hes := fieldAt_le e 5
  rw [Defect.ofBytes_eq, Defect.ofBytes_eq, defectKey, defectKey]
  split <;> split <;> simp [Defect.sameKey] <;> omega

theorem before_iff (p e : List Byte) :
    (Defect.ofBytes p).before (.ofBytes e) = true ↔ defectKey p < defectKey e := by
  have hp := defectLba_lt p
  have he := defectLba_lt e
  have hps := fieldAt_le p 5
  have hes := fieldAt_le e 5
  rw [Defect.ofBytes_eq, Defect.ofBytes_eq, defectKey, defectKey]
  split <;> split <;> simp [Defect.before] <;> omega

theorem checkDefectsFrom_field (i : Nat) (prev : Option Defect) (e : List Byte) (es : List (List Byte))
    (h : ¬ DefectAlone e) : checkDefectsFrom i prev (e :: es) = some ⟨.field, i⟩ := by
  rw [checkDefectsFrom, Bool.eq_false_iff.2 (mt (defectEntryOk_iff e).1 h)]
  rfl

theorem checkDefectsFrom_first (i : Nat) (e : List Byte) (es : List (List Byte)) (h : DefectAlone e) :
    checkDefectsFrom i none (e :: es) = checkDefectsFrom (i + 1) (some (.ofBytes e)) es := by
  rw [checkDefectsFrom, (defectEntryOk_iff e).2 h]
  rfl

/-- An entry against the one before it. -/
theorem checkDefectsFrom_next (i : Nat) (p e : List Byte) (es : List (List Byte)) (h : DefectAlone e) :
    checkDefectsFrom i (some (.ofBytes p)) (e :: es) =
      if defectKey p = defectKey e then some ⟨.duplicate, i⟩
      else if defectKey p < defectKey e then checkDefectsFrom (i + 1) (some (.ofBytes e)) es
      else some ⟨.order, i⟩ := by
  rw [checkDefectsFrom, (defectEntryOk_iff e).2 h, defectFollows]
  simp only [Bool.not_true, Bool.false_eq_true, if_false, sameKey_iff, before_iff]
  split_ifs <;> rfl

section
variable (es : List (List Byte)) (i : Nat) (hp : Passed DefectAlone DefectFits es i)
include hp

/-- The scan carries the entry before. -/
theorem checkDefectsFrom_passes (j : Nat) (p : List Byte) (rest : List (List Byte)) (hj : j < i)
    (hpj : es[j]? = some p) :
    checkDefectsFrom j ((entryBefore es j).map .ofBytes) (p :: rest) =
      checkDefectsFrom (j + 1) ((entryBefore es (j + 1)).map .ofBytes) rest := by
  obtain ⟨halone, hfits⟩ := hp j p hj hpj
  rw [show entryBefore es (j + 1) = some p from hpj, Option.map_some]
  cases j with
  | zero => exact checkDefectsFrom_first 0 p rest halone
  | succ k =>
    obtain ⟨q, hq⟩ : ∃ q, es[k]? = some q :=
      ⟨_, List.getElem?_eq_getElem (by have := (List.getElem?_eq_some_iff.1 hpj).1; omega)⟩
    have hlt := hfits k q rfl hq
    rw [show entryBefore es (k + 1) = some q from hq, Option.map_some, checkDefectsFrom_next _ q p rest halone,
      if_neg hlt.ne, if_pos hlt]

theorem checkTable_defect_at (e : List Byte) (he : es[i]? = some e) : checkTable .defect es =
    checkDefectsFrom i ((entryBefore es i).map .ofBytes) (e :: es.drop (i + 1)) :=
  scan_at checkDefectsFrom (fun j => (entryBefore es j).map .ofBytes) es i e he (checkDefectsFrom_passes es i hp)

theorem checkTable_defect_refuses (e : List Byte) (he : es[i]? = some e) :
    (¬ DefectAlone e → checkTable .defect es = some ⟨.field, i⟩) ∧
    (DefectAlone e → ∀ j p, i = j + 1 → es[j]? = some p →
      (defectKey p = defectKey e → checkTable .defect es = some ⟨.duplicate, i⟩) ∧
      (defectKey e < defectKey p → checkTable .defect es = some ⟨.order, i⟩)) := by
  rw [checkTable_defect_at es i hp e he]
  refine ⟨checkDefectsFrom_field i _ e _, ?_⟩
  rintro h j p rfl hpj
  rw [show entryBefore es (j + 1) = some p from hpj, Option.map_some, checkDefectsFrom_next _ p e _ h]
  exact ⟨fun heq => if_pos heq, fun hlt => by rw [if_neg hlt.ne', if_neg hlt.not_gt]⟩

end

theorem checkTable_defect_accepts (es : List (List Byte)) (hp : Passed DefectAlone DefectFits es es.length) :
    checkTable .defect es = none :=
  scan_end checkDefectsFrom (fun j => (entryBefore es j).map .ofBytes) es (checkDefectsFrom_passes es es.length hp)

/-! ## The tables on their own -/

theorem checkTable_device_cons (e : List Byte) (rest : List (List Byte)) :
    checkTable .device (e :: rest) = if deviceEntryOk e = true then none else some ⟨.field, 0⟩ := rfl

/-- Settles O23: each table's scan, brought to the first entry that fails or past the last. -/
theorem tableChecksAlone : Obligations.TableChecksAlone := by
  refine ⟨rfl, fun e rest => ?_, rfl, fun es i e he hp => checkTable_zone_refuses es i hp e he, checkTable_zone_accepts,
    checkTable_code_short, fun es i e hlen he hp => checkTable_code_refuses es i hp e hlen he, checkTable_code_accepts,
    fun es i e he hp => checkTable_defect_refuses es i hp e he, checkTable_defect_accepts⟩
  rw [checkTable_device_cons]
  exact if_congr (deviceEntryOk_iff e) rfl rfl

/-! ## The zones and the device together (02 R24, R27; 01 R19) -/

/-- The zone fits its budget at the cell time of the device (01 R19, 02 R24). -/
def ZoneFeasible (d : Device) (z : Zone) : Prop :=
  z.spt * (716 + z.gap3) ≤ 60000000000 / (z.rpm * 8 * cellNs d.cellCode) * 97 / 100

theorem feasible_iff (d : Device) (z : Zone) : z.feasible (cellNs d.cellCode) = true ↔ ZoneFeasible d z :=
  decide_eq_true_iff

/-- The last zone ends at the device's last cylinder (02 R27 check 1). -/
def Covers (d : Device) (zs : List Zone) : Prop := zs.getLast?.map Zone.lastCyl = some (d.cylinders - 1)

theorem checkGeometry_uncovered (d : Device) (zs : List Zone) (h : ¬ Covers d zs) :
    checkGeometry d zs = some ⟨.geometry, zs.length - 1⟩ := if_pos h

theorem checkGeometry_covered (d : Device) (zs : List Zone) (h : Covers d zs) :
    checkGeometry d zs = checkBudget (cellNs d.cellCode) 0 zs := if_neg (not_not_intro h)

/-- The budgets are read in index order; nothing is carried. -/
theorem checkBudget_passes (d : Device) (zs : List Zone) (i : Nat)
    (hp : ∀ j y, j < i → zs[j]? = some y → ZoneFeasible d y) (j : Nat) (y : Zone) (rest : List Zone) (hj : j < i)
    (hy : zs[j]? = some y) :
    checkBudget (cellNs d.cellCode) j (y :: rest) = checkBudget (cellNs d.cellCode) (j + 1) rest :=
  if_pos ((feasible_iff d y).2 (hp j y hj hy))

theorem checkBudget_refuses (d : Device) (zs : List Zone) (i : Nat) (z : Zone) (hz : zs[i]? = some z)
    (h : ¬ ZoneFeasible d z) (hp : ∀ j y, j < i → zs[j]? = some y → ZoneFeasible d y) :
    checkBudget (cellNs d.cellCode) 0 zs = some ⟨.budget, i⟩ :=
  (scan_at (fun j (_ : Unit) => checkBudget (cellNs d.cellCode) j) (fun _ => ()) zs i z hz
    (checkBudget_passes d zs i hp)).trans (if_neg (mt (feasible_iff d z).1 h))

theorem checkBudget_accepts (d : Device) (zs : List Zone) (h : ∀ z ∈ zs, ZoneFeasible d z) :
    checkBudget (cellNs d.cellCode) 0 zs = none :=
  scan_end (fun j (_ : Unit) => checkBudget (cellNs d.cellCode) j) (fun _ => ()) zs
    (checkBudget_passes d zs zs.length fun _ _ _ hy => h _ (List.mem_of_getElem? hy))

/-! ## The map over the zones (03 R40) -/

section
variable (recs : List ZoneRec) (map : List Defect)

/-- The zone and slot an entry names (03 R38). -/
def NamesSlot (d : Defect) (zone slot : Nat) : Prop :=
  match d with
  | .remap lba k _ => zoneOfLba recs lba = some zone ∧ k = slot
  | .retire z k _ => z = zone ∧ k = slot

/-- An entry names a slot that its zone has (03 R40 checks 1 and 2). -/
def PlacesSlot (d : Defect) (zone slot : Nat) : Prop :=
  NamesSlot recs d zone slot ∧ ∃ r, recs[zone]? = some r ∧ slot < r.spareSlots

/-- No entry below `i` names the slot (03 R40 check 3). -/
def FreshSlot (i zone slot : Nat) : Prop := ∀ j e, j < i → map[j]? = some e → ¬ NamesSlot recs e zone slot

/-- Every entry below `i` places a fresh slot. -/
def MapPassed (i : Nat) : Prop :=
  ∀ j e, j < i → map[j]? = some e → ∃ zone slot, PlacesSlot recs e zone slot ∧ FreshSlot recs map j zone slot

theorem NamesSlot.unique {recs : List ZoneRec} {d : Defect} {zone slot zone' slot' : Nat}
    (h : NamesSlot recs d zone slot) (h' : NamesSlot recs d zone' slot') : zone = zone' ∧ slot = slot' := by
  cases d with
  | remap lba k o => exact ⟨Option.some.inj (h.1.symm.trans h'.1), h.2.symm.trans h'.2⟩
  | retire z k o => exact ⟨h.1.symm.trans h'.1, h.2.symm.trans h'.2⟩

/-- Past the last zone the records read as one without slots. -/
theorem lt_spareSlots_iff (zone slot : Nat) :
    slot < (recs.getD zone .none).spareSlots ↔ ∃ r, recs[zone]? = some r ∧ slot < r.spareSlots := by
  rw [List.getD_eq_getElem?_getD]
  cases recs[zone]? <;> simp [ZoneRec.none]

theorem place?_iff (d : Defect) (zone slot : Nat) :
    d.place? recs = some (zone, slot) ↔ PlacesSlot recs d zone slot := by
  rw [PlacesSlot, ← lt_spareSlots_iff]
  have hslot : ∀ z k, (if k < (recs.getD z .none).spareSlots then some (z, k) else none) = some (zone, slot) ↔
      (z = zone ∧ k = slot) ∧ slot < (recs.getD zone .none).spareSlots := by
    intro z k
    rw [Option.ite_none_right_eq_some, Option.some.injEq, Prod.mk.injEq, and_comm]
    exact and_congr_right fun ⟨hz, hk⟩ => by rw [hz, hk]
  cases d with
  | remap lba k o =>
    cases hz : zoneOfLba recs lba with
    | none => simp [Defect.place?, NamesSlot, hz]
    | some z => simpa only [Defect.place?, NamesSlot, hz, Option.map_some, Option.some.injEq] using hslot z k
  | retire z k o => exact hslot z k

/-- The slots the entries below `i` name. -/
def slotsBefore (i : Nat) : List (Nat × Nat) := namedBefore (Defect.place? recs) map i

theorem checkMapFrom_unplaced (i : Nat) (seen : List (Nat × Nat)) (d : Defect) (ds : List Defect)
    (h : ∀ zone slot, ¬ PlacesSlot recs d zone slot) : checkMapFrom recs i seen (d :: ds) = some ⟨.geometry, i⟩ := by
  have hnone : d.place? recs = none := Option.eq_none_iff_forall_ne_some.2 fun k hk =>
    h k.1 k.2 ((place?_iff recs d k.1 k.2).1 hk)
  rw [checkMapFrom, hnone]

theorem checkMapFrom_placed (i : Nat) (seen : List (Nat × Nat)) (d : Defect) (ds : List Defect) (zone slot : Nat)
    (h : PlacesSlot recs d zone slot) : checkMapFrom recs i seen (d :: ds) =
      if (zone, slot) ∈ seen then some ⟨.duplicate, i⟩ else checkMapFrom recs (i + 1) ((zone, slot) :: seen) ds := by
  rw [checkMapFrom, (place?_iff recs d zone slot).2 h]
  simp only [List.contains_iff_mem]

section
variable (i : Nat) (hp : MapPassed recs map i)
include hp

/-- The entries below `i` place what they name, so the slots carried are those they name. -/
theorem mem_slotsBefore (zone slot : Nat) :
    (zone, slot) ∈ slotsBefore recs map i ↔ ¬ FreshSlot recs map i zone slot := by
  rw [slotsBefore, mem_namedBefore, FreshSlot]
  simp only [not_forall, not_not, exists_prop]
  constructor
  · rintro ⟨j, e, hj, he, hk⟩
    exact ⟨j, e, hj, he, ((place?_iff recs e zone slot).1 hk).1⟩
  · rintro ⟨j, e, hj, he, hn⟩
    obtain ⟨zone', slot', hplaced, -⟩ := hp j e hj he
    obtain ⟨rfl, rfl⟩ := hn.unique hplaced.1
    exact ⟨j, e, hj, he, (place?_iff recs e zone slot).2 hplaced⟩

/-- The scan carries the slots placed. -/
theorem checkMapFrom_passes (j : Nat) (e : Defect) (rest : List Defect) (hj : j < i) (he : map[j]? = some e) :
    checkMapFrom recs j (slotsBefore recs map j) (e :: rest) =
      checkMapFrom recs (j + 1) (slotsBefore recs map (j + 1)) rest := by
  obtain ⟨zone, slot, hplaced, hfresh⟩ := hp j e hj he
  have hbefore : MapPassed recs map j := fun k q hk => hp k q (by omega)
  rw [checkMapFrom_placed recs j _ e rest zone slot hplaced,
    if_neg (mt (mem_slotsBefore recs map j hbefore zone slot).1 (not_not_intro hfresh)), slotsBefore, slotsBefore,
    namedBefore_succ _ map j e _ he ((place?_iff recs e zone slot).2 hplaced)]

theorem checkMap_refuses (d : Defect) (hd : map[i]? = some d) :
    ((∀ zone slot, ¬ PlacesSlot recs d zone slot) → checkMapFrom recs 0 [] map = some ⟨.geometry, i⟩) ∧
    (∀ zone slot, PlacesSlot recs d zone slot → ¬ FreshSlot recs map i zone slot →
      checkMapFrom recs 0 [] map = some ⟨.duplicate, i⟩) := by
  have hat : checkMapFrom recs 0 [] map = _ :=
    scan_at (checkMapFrom recs) (slotsBefore recs map) map i d hd (checkMapFrom_passes recs map i hp)
  rw [hat]
  refine ⟨checkMapFrom_unplaced recs i _ d _, fun zone slot hplaced hnamed => ?_⟩
  rw [checkMapFrom_placed recs i _ d _ zone slot hplaced, if_pos ((mem_slotsBefore recs map i hp zone slot).2 hnamed)]

end

theorem checkMap_accepts (hp : MapPassed recs map map.length) : checkMapFrom recs 0 [] map = none :=
  scan_end (checkMapFrom recs) (slotsBefore recs map) map (checkMapFrom_passes recs map map.length hp)

end

/-! ## The set as a whole (10 R179) -/

section
variable (a : ActiveSet)

theorem checkSet_geometry (r : Rejection) (h : checkGeometry a.device a.zones = some r) : checkSet a = some r := by
  rw [checkSet, h, Option.some_or]

theorem checkSet_map (h : checkGeometry a.device a.zones = none) :
    checkSet a = checkMapFrom (deriveZones a.zones) 0 [] a.map := by
  rw [checkSet, h, Option.none_or]

end

/-- Settles O24: the zones against the device, then the map's scan. -/
theorem setChecksTogether : Obligations.SetChecksTogether := by
  intro a recs covers cell fits names placed fresh passed
  refine ⟨fun h => checkSet_geometry a _ (checkGeometry_uncovered a.device a.zones h), fun h => ⟨?_, fun hfit => ?_⟩⟩
  · intro i z hz hfit hp
    exact checkSet_geometry a _ ((checkGeometry_covered a.device a.zones h).trans
      (checkBudget_refuses a.device a.zones i z hz hfit hp))
  · rw [checkSet_map a ((checkGeometry_covered a.device a.zones h).trans (checkBudget_accepts a.device a.zones hfit))]
    exact ⟨fun i d hd hp => checkMap_refuses recs a.map i hp d hd, checkMap_accepts recs a.map⟩

end Sys2Proof.Machine
end

section
/-!
PROOFS. The defect map and the spare slots (03): the order of the map and the place of a new entry, the slot states that
follow from a map, and what a map change leaves in the table store.
-/

namespace Sys2Proof.Machine

/-! ## The order of the map (03 R41) -/

/-- The key by which the map is ordered: REMAP entries by their LBA, then RETIRE entries by zone and slot (03 R41). -/
def Defect.rank : Defect → Nat ×ₗ Nat ×ₗ Nat
  | .remap lba _ _ => toLex (0, toLex (lba, 0))
  | .retire zone slot _ => toLex (1, toLex (zone, slot))

theorem Defect.before_iff (d e : Defect) : d.before e = true ↔ d.rank < e.rank := by
  cases d <;> cases e <;> simp [Defect.before, Defect.rank, Prod.Lex.toLex_lt_toLex]

theorem Defect.sameKey_iff (d e : Defect) : d.sameKey e = true ↔ d.rank = e.rank := by
  cases d <;> cases e <;> simp [Defect.sameKey, Defect.rank]

theorem Defect.before_trans {d e f : Defect} (hde : d.before e = true) (hef : e.before f = true) :
    d.before f = true := by
  rw [Defect.before_iff] at *
  exact hde.trans hef

/-- Of two entries with keys of their own one comes before the other. -/
theorem Defect.before_of_not_before {d e : Defect} (hk : e.sameKey d = false) (h : ¬ e.before d = true) :
    d.before e = true := by
  rw [Defect.before_iff] at *
  exact lt_of_le_of_ne (not_lt.1 h) fun heq => by simp [(Defect.sameKey_iff e d).2 heq.symm] at hk

theorem insertDefect_perm (d : Defect) (map : List Defect) : (insertDefect d map).Perm (d :: map) := by
  induction map with
  | nil => exact .refl _
  | cons e es ih =>
    rw [insertDefect]
    split
    · exact (ih.cons e).trans (.swap d e es)
    · exact .refl _

theorem insertDefect_pairwise (d : Defect) (map : List Defect) (ho : map.Pairwise fun a b => a.before b = true)
    (hd : ∀ e ∈ map, e.sameKey d = false) : (insertDefect d map).Pairwise fun a b => a.before b = true := by
  induction map with
  | nil => exact List.pairwise_singleton ..
  | cons e es ih =>
    obtain ⟨hfirst, hrest⟩ := List.pairwise_cons.1 ho
    obtain ⟨hkey, hkeys⟩ := List.forall_mem_cons.1 hd
    rw [insertDefect]
    split
    next hlt =>
      refine List.pairwise_cons.2 ⟨fun x hx => ?_, ih hrest hkeys⟩
      rcases List.mem_cons.1 ((insertDefect_perm d es).mem_iff.1 hx) with rfl | hx
      · exact hlt
      · exact hfirst x hx
    next hge =>
      have hde := Defect.before_of_not_before hkey hge
      exact List.pairwise_cons.2
        ⟨List.forall_mem_cons.2 ⟨hde, fun x hx => Defect.before_trans hde (hfirst x hx)⟩, ho⟩

/-! ## One slot takes a state (03 R42) -/

/-- The state of a slot of a zone, where the zone has the slot. -/
def slotAt (slots : List ZoneSlots) (zone slot : Nat) : Option SlotState := (slots[zone]?).bind (·.states[slot]?)

theorem slotAt_setSlot (slots : List ZoneSlots) (zone slot : Nat) (st : SlotState) (z k : Nat) :
    slotAt (setSlot slots zone slot st) z k =
      if zone = z ∧ slot = k then (slotAt slots z k).map fun _ => st else slotAt slots z k := by
  simp only [slotAt, setSlot, modifyAt_getElem?]
  by_cases hz : zone = z
  · cases slots[z]? with
    | none => simp [hz]
    | some row => simp [hz, modifyAt_getElem?]
  · simp [hz]

theorem slotAt_eq_getElem? {slots : List ZoneSlots} {zone : Nat} {row : ZoneSlots} (hrow : slots[zone]? = some row)
    (slot : Nat) : slotAt slots zone slot = row.states[slot]? := by
  rw [slotAt, hrow, Option.bind_some]

/-- Each zone of the derived records has a row of its slots, whose free count counts the FREE ones. -/
def RowsSound (recs : List ZoneRec) (slots : List ZoneSlots) : Prop :=
  ∀ (zone : Nat) (r : ZoneRec), recs[zone]? = some r →
    ∃ row : ZoneSlots, slots[zone]? = some row ∧ row.states.length = r.spareSlots ∧ row.free = row.states.count .free

theorem RowsSound.setSlot {recs : List ZoneRec} {slots : List ZoneSlots} (h : RowsSound recs slots) (zone slot : Nat)
    (st : SlotState) : RowsSound recs (setSlot slots zone slot st) := by
  intro z r hr
  obtain ⟨row, hrow, hlen, hfree⟩ := h z r hr
  simp only [Machine.setSlot, modifyAt_getElem?, hrow, Option.map_some]
  split
  · exact ⟨_, rfl, by simpa using hlen, rfl⟩
  · exact ⟨row, rfl, hlen, hfree⟩

theorem RowsSound.slotAt_isSome {recs : List ZoneRec} {slots : List ZoneSlots} (h : RowsSound recs slots) {zone : Nat}
    {r : ZoneRec} (hr : recs[zone]? = some r) {slot : Nat} (hslot : slot < r.spareSlots) :
    ∃ st, slotAt slots zone slot = some st := by
  obtain ⟨row, hrow, hlen, -⟩ := h zone r hr
  exact ⟨_, (slotAt_eq_getElem? hrow slot).trans (List.getElem?_eq_getElem (hlen ▸ hslot))⟩

/-! ## The slots of a map (03 R42) -/

/-- What an entry makes of the slot it names: a REMAP uses it, a RETIRE retires it. -/
def Defect.slotState : Defect → SlotState
  | .remap .. => .used
  | .retire .. => .retired

theorem RowsSound.applyEntry {recs : List ZoneRec} {slots : List ZoneSlots} (h : RowsSound recs slots) (d : Defect) :
    RowsSound recs (applyEntry recs slots d) := by
  cases d <;> exact h.setSlot _ _ _

theorem RowsSound.allFree (recs : List ZoneRec) :
    RowsSound recs (recs.map fun r => ⟨List.replicate r.spareSlots .free, r.spareSlots⟩) := fun zone r hr =>
  ⟨_, by rw [List.getElem?_map, hr, Option.map_some], List.length_replicate, List.count_replicate_self.symm⟩

section
variable (recs : List ZoneRec)

theorem applyEntry_eq (slots : List ZoneSlots) (d : Defect) (zone slot : Nat) (h : NamesSlot recs d zone slot) :
    applyEntry recs slots d = setSlot slots zone slot d.slotState := by
  cases d with
  | remap lba k o =>
    obtain ⟨hz, rfl⟩ := h
    rw [applyEntry, hz, Option.getD_some, Defect.slotState]
  | retire z k o =>
    obtain ⟨rfl, rfl⟩ := h
    rfl

theorem buildSlots_sound (map : List Defect) : RowsSound recs (buildSlots recs map) :=
  List.foldlRecOn map _ (RowsSound.allFree recs) fun _ h d _ => h.applyEntry d

/-- Entries that name other slots leave a slot as it is. -/
theorem slotAt_foldl_applyEntry (map : List Defect) (slots : List ZoneSlots) (zone slot : Nat)
    (hnamed : ∀ d ∈ map, ∃ z k, NamesSlot recs d z k) (h : ∀ d ∈ map, ¬ NamesSlot recs d zone slot) :
    slotAt (map.foldl (applyEntry recs) slots) zone slot = slotAt slots zone slot := by
  induction map generalizing slots with
  | nil => rfl
  | cons d ds ih =>
    obtain ⟨⟨z, k, hd⟩, hnamed⟩ := List.forall_mem_cons.1 hnamed
    obtain ⟨hother, h⟩ := List.forall_mem_cons.1 h
    rw [List.foldl_cons, ih _ hnamed h, applyEntry_eq recs slots d z k hd, slotAt_setSlot, if_neg]
    rintro ⟨rfl, rfl⟩
    exact hother hd

variable {map : List Defect} (hnamed : ∀ d ∈ map, ∃ zone slot, NamesSlot recs d zone slot)
  {zone slot : Nat} {r : ZoneRec} (hr : recs[zone]? = some r) (hslot : slot < r.spareSlots)
include hnamed hr hslot

theorem slotAt_buildSlots_unnamed (h : ∀ d ∈ map, ¬ NamesSlot recs d zone slot) :
    slotAt (buildSlots recs map) zone slot = some .free := by
  rw [buildSlots, slotAt_foldl_applyEntry recs map _ zone slot hnamed h, slotAt, List.getElem?_map, hr]
  simp [hslot]

/-- Of entries that name slots of their own, the one that names a slot says its state: what the entries before it made
of the slot does not count, and those after it leave it. -/
theorem slotAt_buildSlots_named
    (hown : map.Pairwise fun d e => ∀ zone slot, NamesSlot recs d zone slot → ¬ NamesSlot recs e zone slot)
    {d : Defect} (hd : d ∈ map) (h : NamesSlot recs d zone slot) :
    slotAt (buildSlots recs map) zone slot = some d.slotState := by
  obtain ⟨older, younger, rfl⟩ := List.append_of_mem hd
  obtain ⟨-, hfrom, -⟩ := List.pairwise_append.1 hown
  obtain ⟨hyounger, -⟩ := List.pairwise_cons.1 hfrom
  obtain ⟨st, hst⟩ := (buildSlots_sound recs older).slotAt_isSome hr hslot
  rw [buildSlots, List.foldl_append, List.foldl_cons,
    slotAt_foldl_applyEntry recs younger _ zone slot (fun e he => hnamed e (by simp [he]))
      (fun e he => hyounger e he zone slot h),
    applyEntry_eq recs _ d zone slot h, slotAt_setSlot, if_pos ⟨rfl, rfl⟩, ← buildSlots, hst, Option.map_some]

end

/-- Settles O25: every row is sound, and a slot has the state of the one entry that names it. -/
theorem slotStatesFollowMap : Obligations.SlotStatesFollowMap := by
  intro zones map recs names hnamed hown zone r hr
  obtain ⟨row, hrow, hlen, hfree⟩ := buildSlots_sound recs map zone r hr
  refine ⟨row, hrow, hlen, hfree, fun slot hslot => ?_⟩
  rw [← slotAt_eq_getElem? hrow slot]
  exact ⟨fun lba o hd hz => slotAt_buildSlots_named recs hnamed hr hslot hown hd ⟨hz, rfl⟩,
    fun o hd => slotAt_buildSlots_named recs hnamed hr hslot hown hd ⟨rfl, rfl⟩,
    slotAt_buildSlots_unnamed recs hnamed hr hslot⟩

/-! ## Map changes (03 R48, R49, R51, R53) -/

/-- The table store `u` is `t`, whose active set is `a`, after a change of its map and its slots (03 R51, R53). -/
def MapChanged (t : Tables) (a : ActiveSet) (u : Tables) (map : List Defect) (slots : List ZoneSlots) : Prop :=
  u.active = some { a with map := map } ∧ u.slots = slots ∧
  u.generation = (if t.generation = 0xFFFF then 1 else t.generation + 1) ∧
  u.image = imageOf u.generation { a with map := map } ∧
  (t.staging.defect.state ≠ .empty → u.staging.defect.state = .stale) ∧
  (t.staging.defect.state = .empty → u.staging = t.staging)

theorem Stage.markStale_empty (g : Stage) (h : g.state = .empty) : g.markStale = g := if_pos h

theorem Stage.markStale_state (g : Stage) (h : g.state ≠ .empty) : g.markStale.state = .stale := by
  rw [Stage.markStale, if_neg h]

section
variable (t : Tables) (a : ActiveSet) (ha : t.active = some a)
include ha

theorem Tables.map_eq : t.map = a.map := by rw [Tables.map, ha, Option.map_some, Option.getD_some]

theorem Tables.mapChange_eq (map : List Defect) (slots : List ZoneSlots) : t.mapChange map slots = { t with
    active := some { a with map := map }
    slots := slots
    generation := nextGeneration t.generation
    staging := { t.staging with defect := t.staging.defect.markStale }
    image := imageOf (nextGeneration t.generation) { a with map := map } } := by
  simp only [Tables.mapChange, ha, Tables.writeImage]

theorem Tables.mapChange_changed (map : List Defect) (slots : List ZoneSlots) :
    MapChanged t a (t.mapChange map slots) map slots := by
  rw [t.mapChange_eq a ha]
  exact ⟨rfl, rfl, rfl, rfl, Stage.markStale_state _, fun h => by simp only [Stage.markStale_empty _ h]⟩

theorem Tables.retireSlot_eq (zone slot : Nat) : t.retireSlot zone slot =
    t.mapChange (insertDefect (.retire zone slot .grown) a.map) (setSlot t.slots zone slot .retired) := by
  rw [Tables.retireSlot, t.map_eq a ha]

theorem Tables.remapTo_new (lba zone slot : Nat) (h : remapSlot a.map lba = none) : t.remapTo lba zone slot =
    t.mapChange (insertDefect (.remap lba slot .grown) a.map) (setSlot t.slots zone slot .used) := by
  simp only [Tables.remapTo, t.map_eq a ha, h]

theorem Tables.remapTo_moved (lba zone slot old : Nat) (h : remapSlot a.map lba = some old) :
    t.remapTo lba zone slot =
      t.mapChange (insertDefect (.retire zone old .grown) (moveRemap lba slot a.map))
        (setSlot (setSlot t.slots zone old .retired) zone slot .used) := by
  simp only [Tables.remapTo, t.map_eq a ha, h]

end

/-- A map without a REMAP entry of the LBA stays as it is. -/
theorem moveRemap_absent (lba slot : Nat) (map : List Defect) (h : ∀ k o, .remap lba k o ∉ map) :
    moveRemap lba slot map = map := by
  refine (List.map_congr_left fun d hd => ?_).trans map.map_id
  cases d with
  | remap l k o => exact if_neg fun hl : l = lba => h k o (hl ▸ hd)
  | retire z k o => rfl

theorem moveRemap_own (lba slot old : Nat) (o : Origin) (older younger : List Defect)
    (holder : ∀ k o, .remap lba k o ∉ older) (hyounger : ∀ k o, .remap lba k o ∉ younger) :
    moveRemap lba slot (older ++ .remap lba old o :: younger) = older ++ .remap lba slot .grown :: younger := by
  have ho := moveRemap_absent lba slot older holder
  have hy := moveRemap_absent lba slot younger hyounger
  rw [moveRemap] at ho hy ⊢
  rw [List.map_append, List.map_cons, ho, hy]
  simp only [if_true]

/-- Settles O59: the entry goes where the order has it, and each change is a map change of its map and slots. -/
theorem mapChangeKeepsOrder : Obligations.MapChangeKeepsOrder := by
  refine ⟨fun d map ho hd => ⟨insertDefect_pairwise d map ho hd, insertDefect_perm d map⟩, fun t a zone slot ha => ?_⟩
  intro marked changed
  refine ⟨?retired, fun lba => ⟨fun hnone => ?new, fun older old o younger hmap holder hyounger => ?moved⟩⟩
  case retired =>
    rw [t.retireSlot_eq a ha]
    exact t.mapChange_changed a ha _ _
  case new =>
    rw [t.remapTo_new a ha lba zone slot (remapSlot_eq_none a.map lba hnone)]
    exact t.mapChange_changed a ha _ _
  case moved =>
    have hold : remapSlot a.map lba = some old := hmap ▸ remapSlot_eq_some older younger lba old o holder
    rw [t.remapTo_moved a ha lba zone slot old hold, hmap, moveRemap_own lba slot old o older younger holder hyounger]
    exact t.mapChange_changed a ha _ _

end Sys2Proof.Machine
end

section
/-!
PROOFS. The reallocation chain (03 R45 to R50; 06 R106, R109): where it begins, the trials of its slots, a slot that
fails its last pass, and a slot that succeeds.
-/

namespace Sys2Proof.Machine

/-! ## The beginning of a chain (03 R45) -/

/-- The chain record as a chain begins, for an LBA with its placement (03 R45). -/
def firstChain (lba : Nat) (p : Placement) : Chain :=
  ⟨lba, p.zone, match p.source with
    | .home => none
    | .spare k => some k, 0, none⟩

theorem startChain_eq (op : Op) (s : State) (p : Placement) (hp : op.placement = some p) :
    startChain op s = startTrial op (firstChain op.lba p) s := by
  unfold startChain firstChain
  rw [hp]
  cases h : p.source <;> simp [h]

/-- The operation record of a REASSIGN whose block has been translated (06 R93). -/
def reassignOp (tag : Tag) (lba : Lba) (p : Placement) : Op :=
  { freshOp tag (.reassign lba) .write with placement := some p, target := p.target }

/-- A REASSIGN that nothing bars begins its chain at once (03 R45; 06 R108). -/
theorem beginOp_reassign (s : State) (tag : Tag) (lba : Lba)
    (hl : (s.tables.placement lba.toNat).writeLock = false) (hw : s.pins.wprot = false) :
    beginOp tag (.reassign lba) s =
      startTrial (reassignOp tag lba (s.tables.placement lba.toNat))
        (firstChain lba.toNat (s.tables.placement lba.toNat))
        (s.setEngine { s.engine with op := some (freshOp tag (.reassign lba) .write) }) := by
  have hbar : ((s.tables.placement lba.toNat).writeLock || s.pins.wprot) = false := by rw [hl, hw, Bool.or_false]
  refine (if_neg (Bool.eq_false_iff.1 hbar)).trans ?_
  exact startChain_eq _ _ (s.tables.placement lba.toNat) rfl

/-! ## What an operation record in the engine leaves of an access -/

theorem PositionAsked.setEngine {s : State} {cylinder : Nat} {pos : Positioner} {isOpen : Bool}
    (h : PositionAsked s cylinder pos isOpen) (e : Engine) : PositionAsked (s.setEngine e) cylinder pos isOpen := by
  cases h with
  | there h => exact .there h
  | inward c h hc => exact .inward c h hc
  | outward c h hc => exact .outward c h hc
  | unknown h => exact .unknown h
  | moving hu hi => exact .moving hu hi

/-- A pass that begins or waits sets the operation record; only a request that ends would leave the one before. -/
theorem passOrWait_setOp (op : Op) (s : State) (x : Option Op) (hw : s.pins.wprot = false) :
    passOrWait op (s.setEngine { s.engine with op := x }) = passOrWait op s := by
  unfold passOrWait
  split
  · rfl
  · rw [if_neg (by simp [hw]), if_neg (by simp [hw])]
    unfold passBegun
    cases h : armedAction op s.buffer <;> simp only [State.setEngine_buffer, h] <;> rfl

/-- With the write-protect sense inactive, opening POSITION and SPEED does not depend on the record held before. -/
theorem Opens.of_setOp {s t : State} {op : Op} {x : Option Op} (hw : s.pins.wprot = false)
    (h : Opens (s.setEngine { s.engine with op := x }) t op) : Opens s t op := by
  intro pos spindle posOpen speedOpen hpos hspeed hcodec
  exact (h pos spindle posOpen speedOpen (hpos.setEngine _) hspeed hcodec).trans
    (passOrWait_setOp _ ((s.setPos pos).setSpindle spindle) x hw)

theorem OnTrial.of_setOp {s t : State} {op : Op} {x : Option Op} {chain : Chain} {k : Nat}
    (hw : s.pins.wprot = false) (h : OnTrial (s.setEngine { s.engine with op := x }) t op chain k) :
    OnTrial s t op chain k :=
  Opens.of_setOp hw h

/-! ## The last pass of a write fails (06 R106; 03 R47) -/

/-- The operation record after a write pass that failed (06 R91, R104). -/
def Op.writeLost (op : Op) (why : PassFailure) : Op :=
  { op with failures := op.failures.after why, purpose := .write }

section
variable (why : PassFailure) (op : Op) (s : State) (hn : 1 + s.tables.writeRetries ≤ op.pass)
include hn

theorem writeFailed_ends (hq : op.req.isRead = false) (hc : op.chain = none) (ha : s.tables.autoRealloc = false) :
    writeFailed why op s = produceDone op.tag
      ⟨.verifyFailed, op.blocksDone, op.retriesUsed, some (op.req.firstLba + op.cursor), none⟩ s := by
  simp only [writeFailed, if_neg (Nat.not_lt.2 hn), hc, ha, Bool.false_eq_true, if_false]
  exact endWith_done { op.writeLost why with chain := none } .verifyFailed s hq

theorem writeFailed_chains (hc : op.chain = none) (ha : s.tables.autoRealloc = true) (p : Placement)
    (hp : op.placement = some p) : writeFailed why op s =
      startTrial (op.writeLost why) (firstChain (op.req.firstLba + op.cursor) p) s := by
  simp only [writeFailed, if_neg (Nat.not_lt.2 hn), hc, ha, if_true]
  exact startChain_eq (op.writeLost why) s p hp

theorem writeFailed_slot (chain : Chain) (hc : op.chain = some chain) : writeFailed why op s =
    slotFailed (op.writeLost why) chain s := by
  simp only [writeFailed, if_neg (Nat.not_lt.2 hn), hc, Op.writeLost]

end

/-! ## A slot that fails (03 R48, R50) -/

theorem Tables.mapFull_iff (t : Tables) : t.mapFull = true ↔ 192 ≤ t.map.length := decide_eq_true_iff

theorem Tables.not_mapFull (t : Tables) (h : t.map.length < 192) : ¬ t.mapFull = true :=
  mt t.mapFull_iff.1 (Nat.not_le.2 h)

section
variable (op : Op) (chain : Chain) (s : State)

theorem slotFailed_mapFull (hq : op.req.isRead = false) (hfull : 192 ≤ s.tables.map.length) :
    slotFailed op chain s = produceDone op.tag
      ⟨.mapFull, op.blocksDone, op.retriesUsed, some (op.req.firstLba + op.cursor), none⟩ s := by
  rw [slotFailed, if_pos ((Tables.mapFull_iff _).2 hfull)]
  exact endWith_done { op with chain := none } .mapFull s hq

variable (slot : Nat) (hs : chain.slot = some slot) (hroom : s.tables.map.length < 192)
include hs hroom

/-- After the third slot that fails the chain ends, the slot retired. -/
theorem slotFailed_ends (hq : op.req.isRead = false) (hlast : 2 ≤ chain.slotsTried) : slotFailed op chain s =
    produceDone op.tag ⟨.verifyFailed, op.blocksDone, op.retriesUsed, some (op.req.firstLba + op.cursor), none⟩
      (grownEvents chain.lba chain.zone (s.setTables (s.tables.retireSlot chain.zone slot))) := by
  rw [slotFailed, if_neg (Tables.not_mapFull _ hroom), hs, Option.getD_some, raiseGrowth_eq]
  refine (if_neg (by omega)).trans ?_
  exact endWith_done { op with chain := none } .verifyFailed _ hq

/-- After an earlier one the next trial follows. -/
theorem slotFailed_goesOn (hmore : chain.slotsTried < 2) : slotFailed op chain s =
    startTrial op { chain with slotsTried := chain.slotsTried + 1, slot := none }
      (grownEvents chain.lba chain.zone (s.setTables (s.tables.retireSlot chain.zone slot))) := by
  rw [slotFailed, if_neg (Tables.not_mapFull _ hroom), hs, Option.getD_some, raiseGrowth_eq]
  exact if_pos (by omega)

end

/-! ## A slot that succeeds (03 R49, R50) -/

section
variable (op : Op) (chain : Chain) (s : State)

theorem slotSucceeded_mapFull (hq : op.req.isRead = false) (hfull : 192 ≤ s.tables.map.length) :
    slotSucceeded op chain s = produceDone op.tag
      ⟨.mapFull, op.blocksDone, op.retriesUsed, some (op.req.firstLba + op.cursor), none⟩ s := by
  rw [slotSucceeded, if_pos ((Tables.mapFull_iff _).2 hfull)]
  exact endWith_done { op with chain := none } .mapFull s hq

theorem slotSucceeded_remaps (slot : Nat) (hs : chain.slot = some slot) (hroom : s.tables.map.length < 192) :
    slotSucceeded op chain s =
      completeBlock { op with reallocated := true, failures := .none, chain := none }
        ((grownEvents chain.lba chain.zone (s.setTables (s.tables.remapTo chain.lba chain.zone slot))).setEngine
          { s.engine with reallocs := bump s.engine.reallocs }) := by
  rw [slotSucceeded, if_neg (Tables.not_mapFull _ hroom), hs, Option.getD_some]
  simp only [raiseGrowth_engine, State.setTables_engine]
  rw [raiseGrowth_eq]

end

/-- Only READ, WRITE and VERIFY name more than one block (05 R73). -/
theorem Request.of_one_lt_blocks (r : Request) (h : 1 < r.blocks) :
    (∃ l c f, r = .read l c f) ∨ (∃ l c f, r = .verify l c f) ∨ ∃ l c f, r = .write l c f := by
  cases r with
  | read l c f => exact .inl ⟨l, c, f, rfl⟩
  | verify l c f => exact .inr (.inl ⟨l, c, f, rfl⟩)
  | write l c f => exact .inr (.inr ⟨l, c, f, rfl⟩)
  | format | reassign | recal | spin => simp [Request.blocks] at h

/-- Settles O53: the COMPARE ends the pass well, and the slot on trial becomes the placement. -/
theorem slotOutcome : Obligations.SlotOutcome := by
  intro s bits op target ref chain slot ho hm hd hp hq hc hs hr u
  have he : exec (.dataReadEnd bits) s = .next (schedule (slotSucceeded op chain u)) := by
    rw [exec_dataReadEnd_reading s bits op target _ hm ho, hr,
      dataEnd_good s op _ _ ho hd fun r h => by rw [Action.compare.inj h]]
    simp only [passGood, hp, hc]
    rfl
  refine ⟨fun hfull => ?_, fun hroom => ⟨_, he, ?_⟩⟩
  · rw [he, slotSucceeded_mapFull op chain u hq hfull]
  · rw [slotSucceeded_remaps op chain u slot hs hroom]
    exact completeBlock_done _ { op with reallocated := true, failures := .none, chain := none } fun h =>
      Request.of_one_lt_blocks op.req (Nat.lt_of_le_of_lt (Nat.le_add_left 1 op.cursor) h)

/-! ## The trials of a chain (03 R46, R47) -/

/-- HUNT_TIMEOUT with the codec in HUNT fails the pass of a write (06 R98; log entry 8). -/
theorem exec_huntTimeout_write (s : State) (op : Op) (target : SectorId) (action : Action)
    (ho : s.engine.op = some op) (hd : op.stage ≠ .drain) (hm : s.codec.mode = .hunt target action)
    (hrevs : s.tables.huntRevs ≤ op.huntRevs) (hp : op.purpose = .write ∨ op.purpose = .compare) :
    exec .huntTimeout s = .next (schedule (writeFailed .huntTimeout op s.codecIdle)) := by
  have hfail : ∀ v, passFailed .huntTimeout op v = writeFailed .huntTimeout op v := fun v => by
    rcases hp with hp | hp <;> simp only [passFailed, hp]
  simp only [exec, execHuntTimeout, Engine.working_some _ op ho hd, if_pos hrevs, huntExpires, hm,
    afterEngine_busy s _ op ho, codecStop_hunt s target action hm, hfail]

/-- A COMPARE that does not end GOOD fails the pass of a write (06 R105). -/
theorem exec_fieldFails_compare (s : State) (i : Instr) (op : Op) (target : SectorId) (ref : DataRef)
    (data : List Byte) (faults : Counter) (ho : s.engine.op = some op) (hd : op.stage ≠ .drain)
    (hm : s.codec.mode = .dataRead target (.compare ref)) (hp : op.purpose = .compare)
    (hf : FieldFails s (.compare ref) i data faults) :
    exec i s = .next (schedule (writeFailed .other op (s.setCodec { s.codec with
      mode := .idle, stopHeld := false, reader := .clear, wdata := [], decodeFaults := faults }))) := by
  rw [exec_fieldFails s i op target _ data faults hm ho hd hf]
  simp only [passFailed, hp]
  rfl

/-- Settles O52: a REASSIGN's chain from its start, and the last pass of a WRITE or of a slot on trial by what the write
that failed does next. -/
theorem slotTrials : Obligations.SlotTrials := by
  refine ⟨fun s tag lba p hplace hl hw => ?_, ?_⟩
  · subst hplace
    intro op chain
    rw [beginOp_reassign s tag lba hl hw]
    exact ⟨fun k hk => (startTrial_tries _ (reassignOp tag lba _) chain k (by exact hk)).of_setOp hw,
      fun hnone => startTrial_exhausted _ _ chain hnone rfl⟩
  · intro s i op target failures faults ho hd hq hfails hn lba u ends tries
    obtain ⟨why, he, rfl⟩ : ∃ why, exec i s = .next (schedule (writeFailed why op u)) ∧
        op.failures.after why = failures := by
      rcases hfails with ⟨action, hm, rfl, hrevs, hp, rfl, rfl⟩ | ⟨ref, data, hm, hp, hf, rfl⟩
      · exact ⟨.huntTimeout, exec_huntTimeout_write s op target action ho hd hm hrevs hp, rfl⟩
      · exact ⟨.other, exec_fieldFails_compare s i op target ref data faults ho hd hm hp hf, rfl⟩
    have done : ∀ status v, writeFailed why op u =
        produceDone op.tag ⟨status, op.blocksDone, op.retriesUsed, some lba, none⟩ v → ends status v :=
      fun status v h => he.trans (by rw [h])
    have follows : ∀ chain v, writeFailed why op u = startTrial (op.writeLost why) chain v → tries chain v :=
      fun chain v h => ⟨fun k hk => ⟨_, he.trans (by rw [h]), startTrial_tries v (op.writeLost why) chain k hk⟩,
        fun hnone => done _ v (h.trans (startTrial_exhausted v (op.writeLost why) chain hnone hq))⟩
    refine ⟨fun hc => ⟨fun ha => done _ u (writeFailed_ends why op u hn hq hc ha),
      fun ha p hp => follows _ u (writeFailed_chains why op u hn hc ha p hp)⟩, fun chain slot hc hs => ?_⟩
    have hfailed := writeFailed_slot why op u hn chain hc
    exact ⟨fun hfull => done _ u (hfailed.trans (slotFailed_mapFull (op.writeLost why) chain u hq hfull)),
      fun hroom => ⟨fun hlast => done _ _ (hfailed.trans (slotFailed_ends _ chain u slot hs hroom hq hlast)),
        fun hmore => follows _ _ (hfailed.trans (slotFailed_goesOn _ chain u slot hs hroom hmore))⟩⟩

end Sys2Proof.Machine
end

section
/-!
PROOFS. The buffer's pages (04 R57 to R61): the grant decision, the BLOCK frame of the host, and the expiry of the data
timer.
-/

namespace Sys2Proof.Machine

/-! ## The grant (04 R57, R58) -/

/-- From block index `next` upward, each FREE page takes the index that the FREE pages before it leave, while it is
below `n`. -/
theorem assignFree_getElem? (tag : Tag) (n next : Nat) (pages : List Page) (p : Nat) (page : Page)
    (hp : pages[p]? = some page) :
    (assignFree tag n next pages)[p]? =
      some (if page.use = .free ∧ next + (pages.take p).countP (fun q => q.use == .free) < n then
        { page with use := .filling tag (next + (pages.take p).countP fun q => q.use == .free) } else page) := by
  induction pages generalizing next p with
  | nil => simp at hp
  | cons q qs ih =>
    cases p with
    | zero =>
      obtain rfl : q = page := by simpa using hp
      by_cases h : q.use = .free ∧ next < n <;> simp [assignFree, h]
    | succ p =>
      have hp' : qs[p]? = some page := by simpa using hp
      unfold assignFree
      by_cases hfree : q.use = .free
      · by_cases hroom : next < n
        · rw [if_pos ⟨hfree, hroom⟩, List.getElem?_cons_succ, ih (next + 1) p hp']
          simp [hfree, Nat.add_assoc, Nat.add_comm 1]
        · rw [if_neg fun h => hroom h.2, List.getElem?_cons_succ, ih next p hp',
            if_neg fun h => by omega, if_neg fun h => by omega]
      · rw [if_neg fun h => hfree h.1, List.getElem?_cons_succ, ih next p hp']
        simp [hfree]

theorem Queue.find_tag {q : Queue} {tag : Tag} {r : Record} (h : q.find tag = some r) : r.tag = tag := by
  simpa using List.find?_some h

/-- What follows a grant leaves the page-wait FIFO alone. -/
theorem afterGrant_fifo (r : Record) (s : State) : (afterGrant r s).buffer.fifo = s.buffer.fifo := by
  unfold afterGrant
  cases r.req.isRead with
  | true => rfl
  | false => simp [produceDoneCall, State.setReqState]

theorem grant_nil (s : State) (h : s.buffer.fifo = []) : grant s = s := by
  rw [grant, h]
  rfl

section
variable (s : State) (tag : Tag) (rest : List Tag) (r : Record)
  (hfifo : s.buffer.fifo = tag :: rest) (hr : s.queue.find tag = some r)
include hfifo hr

theorem grant_waits (h : s.buffer.freePages.length < r.req.blocks) : grant s = s := by
  simp [grant, hfifo, grantLoop, hr, h]

/-- A grant takes the head out of the FIFO, so that the fuel of the loop is again the FIFO's length. -/
theorem grant_takes (h : r.req.blocks ≤ s.buffer.freePages.length) :
    grant s = grant (afterGrant r (takePages tag r.req.blocks rest s)) := by
  have hrest : (afterGrant r (takePages tag r.req.blocks rest s)).buffer.fifo = rest := afterGrant_fifo ..
  calc grant s
    _ = grantLoop rest.length (afterGrant r (takePages tag r.req.blocks rest s)) := by
      simp [grant, hfifo, grantLoop, hr, Nat.not_lt.2 h]
    _ = grant (afterGrant r (takePages tag r.req.blocks rest s)) := by rw [grant, hrest]

end

/-- Settles O12: the empty FIFO, the head that waits and the head that is granted, as a READ or as a WRITE; and the
pages taken, from block index 0. -/
theorem grantDecision : Obligations.GrantDecision := by
  refine ⟨grant_nil, fun s tag rest r hfifo hr => ⟨grant_waits s tag rest r hfifo hr, fun h hread => ?_,
    fun h hwrite => ?_⟩, fun tag n pages p page hp => ?_⟩
  · rw [grant_takes s tag rest r hfifo hr h, afterGrant, hread, Queue.find_tag hr]
    rfl
  · rw [grant_takes s tag rest r hfifo hr h, afterGrant, hwrite, Queue.find_tag hr]
    rfl
  · simpa using assignFree_getElem? tag n 0 pages p page hp

/-! ## The BLOCK frame (04 R60, R61) -/

theorem blockAccepted_iff (tag : Tag) (index : Nat) (s : State) : blockAccepted tag index s = true ↔
    ∃ r w, s.queue.find tag = some r ∧ r.state = .awaitData ∧ index < r.req.blocks ∧
      s.buffer.writeOf tag = some w ∧ index ∉ w.received := by
  unfold blockAccepted
  cases s.queue.find tag with
  | none => simp
  | some r =>
    cases s.buffer.writeOf tag with
    | none => simp
    | some w => simp [and_assoc]

theorem Buffer.writeOf_updateWrite (b : Buffer) (tag : Tag) (f : WriteData → WriteData)
    (hf : ∀ w, (f w).tag = w.tag) : (b.updateWrite tag f).writeOf tag = (b.writeOf tag).map f := by
  have hsame : ((fun w : WriteData => w.tag == tag) ∘ fun w => if w.tag == tag then f w else w) =
      fun w => w.tag == tag := by
    funext w
    simp only [Function.comp_apply]
    split <;> simp [hf]
  simp only [Buffer.writeOf, Buffer.updateWrite, List.find?_map, hsame]
  cases hw : b.writes.find? (·.tag == tag) with
  | none => rfl
  | some w =>
    have htag : w.tag = tag := by simpa using List.find?_some hw
    simp [htag]

theorem fillBlock_eq (tag : Tag) (index p : Nat) (data : List Byte) (s : State)
    (hp : s.buffer.pageOf tag index = some p) :
    fillBlock tag index data s = s.setBuffer
      ((s.buffer.updateWrite tag fun w => { w with received := w.received ++ [index] }).setPage p
        fun _ => ⟨.full tag index, data⟩) := by
  rw [fillBlock, hp]

theorem fillBlock_queue (tag : Tag) (index : Nat) (data : List Byte) (s : State) :
    (fillBlock tag index data s).queue = s.queue := by
  unfold fillBlock
  cases s.buffer.pageOf tag index <;> rfl

/-- The index joins the received set, whether or not a page is there for it. -/
theorem fillBlock_writeOf (tag : Tag) (index : Nat) (data : List Byte) (s : State) :
    (fillBlock tag index data s).buffer.writeOf tag =
      (s.buffer.writeOf tag).map fun w => { w with received := w.received ++ [index] } := by
  have updated := s.buffer.writeOf_updateWrite tag (fun w => { w with received := w.received ++ [index] }) fun _ => rfl
  unfold fillBlock
  cases s.buffer.pageOf tag index <;> exact updated

/-- After a block is taken all have been received exactly when the indexes received before it are one short. -/
theorem allReceived_fillBlock (tag : Tag) (index : Nat) (data : List Byte) (s : State) (r : Record) (w : WriteData)
    (hr : s.queue.find tag = some r) (hw : s.buffer.writeOf tag = some w) :
    allReceived tag (fillBlock tag index data s) = true ↔ w.received.length + 1 = r.req.blocks := by
  simp [allReceived, fillBlock_queue, fillBlock_writeOf, hr, hw]

/-- With no reset held a BLOCK frame of 512 bytes is the buffer manager's. -/
theorem exec_block (s : State) (tag : Tag) (index : Byte) (data : List Byte) (hreset : s.resetHeld = false)
    (hlen : data.length = 512) : exec (.block tag index data) s = .next (bufferBlock tag index.toNat data s) := by
  simp [exec, execBlock, takeBlock, hreset, blockDataOk, hlen]

/-- Settles O13: an accepted block is in its page and in the received set, and the last one ends the wait for data. -/
theorem blockTaken : Obligations.BlockTaken := by
  intro s tag index data hreset hlen
  rw [exec_block s tag index data hreset hlen]
  refine ⟨fun r w p hr hstate hindex hw hnew hp => ?_, fun h => ?_⟩
  · have haccepted := (blockAccepted_iff tag index.toNat s).2 ⟨r, w, hr, hstate, hindex, hw, hnew⟩
    have hlast := allReceived_fillBlock tag index.toNat data s r w hr hw
    simp only [bufferBlock, haccepted, if_true, hlast]
    simp only [fillBlock_eq tag index.toNat p data s hp, Buffer.updateWrite, Buffer.setPage, beq_iff_eq, writeReady]
  · rw [bufferBlock, if_neg fun ha => h ((blockAccepted_iff ..).1 ha), discardBlock]

/-! ## The data timer (04 R59) -/

/-- Settles O10: the timer runs, so the request leaves AWAIT_DATA and its DONE is produced. -/
theorem dataTimeoutEnds : Obligations.DataTimeoutEnds := by
  intro s tag r w hr hstate hw htimer
  have hruns : dataTimerRuns tag s = true := by
    simp [dataTimerRuns, Queue.find, Buffer.writeOf, hr, hw, hstate, htimer]
  calc exec (.dataTimeout tag) s
    _ = .next (schedule (produceDone tag (endedEarly .dataTimeout) (s.leaveAwaitData tag))) := if_pos hruns
    _ = _ := rfl

end Sys2Proof.Machine
end

section
/-!
PROOFS. The account of the request queue (05 R67, R68, R83): the tags in use, the credit balance and the tag the media
engine works for. What the engine does leaves the account or ends the request it works for; law 1 of 05 R68 follows for
every command.
-/

namespace Sys2Proof.Machine

/-! ## The account -/

/-- The tags in use, oldest first, the credit balance, and the tag of the operation record. -/
structure Account where
  tags : List Tag
  credits : Nat
  working : Option Tag

def accountOf (q : Queue) (e : Engine) : Account := ⟨q.records.map (·.tag), q.credits, e.op.map (·.tag)⟩

/-- The engine works for `tag`. -/
def Account.begin (a : Account) (tag : Tag) : Account := { a with working := some tag }

/-- The DONE of `tag` is produced (05 R89 effects 1, 2 and 5). -/
def Account.done (a : Account) (tag : Tag) : Account :=
  ⟨a.tags.filter fun t => !(t == tag), a.credits + 1, if a.working = some tag then none else a.working⟩

/-- Law 1 in terms of the account. -/
structure Account.Sound (a : Account) : Prop where
  distinct : a.tags.Nodup
  sum : a.tags.length + a.credits = 8
  working : ∀ tag, a.working = some tag → tag ∈ a.tags

theorem balanced_iff (s : State) : Balanced s ↔ (accountOf s.queue s.engine).Sound := by
  constructor
  · rintro ⟨hd, hs, hw⟩
    refine ⟨hd, by simpa [accountOf] using hs, fun tag h => ?_⟩
    obtain ⟨op, ho, rfl⟩ : ∃ op, s.engine.op = some op ∧ op.tag = tag := by simpa [accountOf] using h
    exact hw op ho
  · rintro ⟨hd, hs, hw⟩
    exact ⟨hd, by simpa [accountOf] using hs, fun op ho => hw op.tag (by simp [accountOf, ho])⟩

theorem Account.begin_of_working {a : Account} {tag : Tag} (h : a.working = some tag) : a.begin tag = a := by
  rw [Account.begin, ← h]

/-- A tag in use occurs once, so its DONE takes one tag out and puts one credit back. -/
theorem Account.Sound.done {a : Account} (h : a.Sound) {tag : Tag} (ht : tag ∈ a.tags) : (a.done tag).Sound := by
  have erased : (a.done tag).tags = a.tags.erase tag := (h.distinct.erase_eq_filter tag).symm
  refine ⟨erased ▸ h.distinct.erase tag, ?_, fun t hw => ?_⟩
  · have hlen : (a.tags.erase tag).length = a.tags.length - 1 := List.length_erase_of_mem ht
    have hpos : 0 < a.tags.length := List.length_pos_of_mem ht
    have hsum := h.sum
    rw [erased, hlen]
    simp only [Account.done]
    omega
  · have hne : a.working ≠ some tag := fun e => by simp [Account.done, e] at hw
    have hw' : a.working = some t := by simpa [Account.done, hne] using hw
    have : t ≠ tag := fun e => hne (e ▸ hw')
    simpa [Account.done, this] using h.working t hw'

theorem Account.Sound.begin {a : Account} (h : a.Sound) {tag : Tag} (ht : tag ∈ a.tags) : (a.begin tag).Sound :=
  ⟨h.distinct, h.sum, fun _ e => by cases e; exact ht⟩

/-! ## The account after an operation -/

@[simp] theorem accountOf_grant (s : State) (e : Engine) : accountOf (grant s).queue e = accountOf s.queue e := by
  simp [accountOf]

@[simp] theorem accountOf_update (q : Queue) (tag : Tag) (f : Record → Record) (e : Engine)
    (hf : ∀ r, (f r).tag = r.tag) : accountOf (q.update tag f) e = accountOf q e := by
  rw [accountOf, Queue.update_tags q tag f hf]
  rfl

@[simp] theorem accountOf_setReqState (s : State) (tag : Tag) (st : ReqState) (e : Engine) :
    accountOf (s.setReqState tag st).queue e = accountOf s.queue e :=
  accountOf_update _ _ _ _ fun _ => rfl

@[simp] theorem accountOf_setOp (s : State) (op : Op) (q : Queue) :
    accountOf q (s.setOp op).engine = (accountOf q s.engine).begin op.tag := rfl

/-- The retry counters of the engine are none of the account. -/
@[simp] theorem accountOf_counters (e : Engine) (q : Queue) (reads writes reallocs : Counter) :
    accountOf q ⟨e.op, reads, writes, reallocs⟩ = accountOf q e := rfl

@[simp] theorem accountOf_produceDone (tag : Tag) (report : DoneReport) (s : State) :
    accountOf (produceDone tag report s).queue (s.engine.dropOp tag) = (accountOf s.queue s.engine).done tag := by
  have hop : (s.engine.dropOp tag).op.map (·.tag) =
      if s.engine.op.map (·.tag) = some tag then none else s.engine.op.map (·.tag) := by
    unfold Engine.dropOp
    cases ho : s.engine.op with
    | none => simp [ho]
    | some op => by_cases ht : op.tag = tag <;> simp [ho, ht]
  simp only [accountOf, Account.done, produceDone_tags, produceDone_credits, hop, Queue.remove, List.filter_map]
  rfl

/-! ## What the engine does to the account -/

/-- From the account `a` the engine came to `t`: with the account as it was, or with the request it worked for ended. -/
def Proceeds (a : Account) (t : State) : Prop :=
  accountOf t.queue t.engine = a ∨ ∃ tag, a.working = some tag ∧ accountOf t.queue t.engine = a.done tag

theorem Proceeds.sound {a : Account} {t : State} (h : Proceeds a t) (ha : a.Sound) :
    (accountOf t.queue t.engine).Sound := by
  obtain h | ⟨tag, hw, h⟩ := h
  · exact h ▸ ha
  · exact h ▸ ha.done (ha.working tag hw)

/-- After the end of its request the engine is IDLE and can end no other. -/
theorem Proceeds.trans {a : Account} {t u : State} (h : Proceeds a t)
    (hu : Proceeds (accountOf t.queue t.engine) u) : Proceeds a u := by
  obtain h | ⟨tag, hw, h⟩ := h
  · exact h ▸ hu
  · have hidle : (accountOf t.queue t.engine).working = none := by simp [h, Account.done, hw]
    obtain hu | ⟨tag', hw', -⟩ := hu
    · exact .inr ⟨tag, hw, hu.trans h⟩
    · rw [hidle] at hw'
      cases hw'

@[simp] theorem proceeds_of_eq {a : Account} {t : State} (h : accountOf t.queue t.engine = a) : Proceeds a t := .inl h

theorem working_tag {e : Engine} {op : Op} (h : e.working = some op) (q : Queue) :
    (accountOf q e).working = some op.tag := by
  unfold Engine.working at h
  cases ho : e.op with
  | none => simp [ho] at h
  | some x =>
    rw [ho] at h
    dsimp only at h
    split at h
    · cases h
    · cases h
      simp [accountOf, ho]

/-! ## The media engine at work -/

section
variable {a : Account} (s : State) (op : Op) (h : accountOf s.queue s.engine = a) (hw : a.working = some op.tag)
include h hw

@[simp] theorem produceDone_proceeds (report : DoneReport) : Proceeds a (produceDone op.tag report s) :=
  .inr ⟨op.tag, hw, by simp [h]⟩

@[simp] theorem finish_proceeds (status : Status) (failing : Option (BitVec 32)) :
    Proceeds a (finish op status failing s) := by
  unfold finish
  cases op.req.isRead with
  | false => simp [h, hw]
  | true =>
    dsimp only
    split
    · simp [settlePages, h, hw]
    · simp [settlePages, enterDrain, h, hw, Account.begin_of_working]

@[simp] theorem endWith_proceeds (status : Status) : Proceeds a (endWith op status s) := by
  simp [endWith, h, hw]

@[simp] theorem armPass_proceeds : Proceeds a (armPass op s) := by
  simp [armPass, h, hw, Account.begin_of_working]

@[simp] theorem giveTrackWrite_proceeds : Proceeds a (giveTrackWrite op s) := by
  simp [giveTrackWrite, h, hw, Account.begin_of_working]

@[simp] theorem suspendPass_proceeds : Proceeds a (suspendPass op s) := by
  simp [suspendPass, h, hw, Account.begin_of_working]

@[simp] theorem startAccess_proceeds : Proceeds a (startAccess op s) := by
  unfold startAccess
  cases op.purpose with
  | read | discard | compare | formatVerify => simp [h, hw]
  | write | trackWrite => cases s.pins.wprot <;> simp [h, hw]

@[simp] theorem closeIfReady_proceeds : Proceeds a (closeIfReady op s) := by
  unfold closeIfReady
  split <;> simp [h, hw, Account.begin_of_working]

@[simp] theorem openBoth_proceeds : Proceeds a (openBoth op s) := by
  simp [openBoth, askSpeed, h, hw]

@[simp] theorem reopenPosition_proceeds : Proceeds a (reopenPosition op s) := by
  simp [reopenPosition, h, hw]

@[simp] theorem startTrial_proceeds (chain : Chain) : Proceeds a (startTrial op chain s) := by
  unfold startTrial
  split <;> simp [h, hw]

@[simp] theorem startChain_proceeds : Proceeds a (startChain op s) := by
  simp [startChain, h, hw]

@[simp] theorem slotFailed_proceeds (chain : Chain) : Proceeds a (slotFailed op chain s) := by
  unfold slotFailed
  dsimp only
  split
  · simp [h, hw]
  · split <;> simp [h, hw]

@[simp] theorem translateBlock_proceeds (p : Purpose) : Proceeds a (translateBlock p op s) := by
  unfold translateBlock
  dsimp only
  cases op.req with
  | write | reassign => dsimp only; split <;> simp [h, hw]
  | read | verify | format | recal | spin => simp [h, hw]

@[simp] theorem completeBlock_proceeds : Proceeds a (completeBlock op s) := by
  unfold completeBlock
  dsimp only
  split
  · simp [h, hw]
  · split <;> simp [h, hw]

@[simp] theorem slotSucceeded_proceeds (chain : Chain) : Proceeds a (slotSucceeded op chain s) := by
  unfold slotSucceeded
  split <;> simp [h, hw]

@[simp] theorem readFailed_proceeds (why : PassFailure) : Proceeds a (readFailed why op s) := by
  unfold readFailed
  dsimp only
  split <;> simp [h, hw, Op.nextPass]

@[simp] theorem writeFailed_proceeds (why : PassFailure) : Proceeds a (writeFailed why op s) := by
  unfold writeFailed
  dsimp only
  split
  · cases s.pins.wprot <;> simp [h, hw, Op.nextPass]
  · cases op.chain with
    | some chain => simp [h, hw]
    | none => dsimp only; split <;> simp [h, hw]

@[simp] theorem nextFormatSector_proceeds (k : Nat) : Proceeds a (nextFormatSector k op s) := by
  unfold nextFormatSector
  split <;> simp [h, hw]

@[simp] theorem formatReadFailed_proceeds (k : Nat) : Proceeds a (formatReadFailed k op s) := by
  simp [formatReadFailed, h, hw]

@[simp] theorem trackOverran_proceeds : Proceeds a (trackOverran op s) := by
  unfold trackOverran
  dsimp only
  split <;> simp [h, hw, Op.nextPass]

@[simp] theorem passFailed_proceeds (why : PassFailure) : Proceeds a (passFailed why op s) := by
  unfold passFailed
  cases op.purpose <;> simp [h, hw]

@[simp] theorem passGood_proceeds : Proceeds a (passGood op s) := by
  unfold passGood
  cases op.purpose with
  | compare => cases op.chain <;> simp [h, hw]
  | read => simp [deliverPage, h, hw]
  | discard | formatVerify | write | trackWrite => simp [h, hw]

@[simp] theorem sectorWritten_proceeds : Proceeds a (sectorWritten op s) := by
  unfold sectorWritten
  split <;> simp [h, hw]

@[simp] theorem trackWritten_proceeds : Proceeds a (trackWritten op s) := by
  unfold trackWritten
  split <;> simp [h, hw]

@[simp] theorem positionFault_proceeds (seen : Bool) : Proceeds a (positionFault seen op s) := by
  unfold positionFault
  dsimp only
  cases seen <;> split <;> simp [h, hw, Account.begin_of_working]

@[simp] theorem resumePass_proceeds : Proceeds a (resumePass op s) := by
  unfold resumePass
  cases op.purpose <;> simp [h, hw]

@[simp] theorem gateStopped_proceeds (cause : GateCause) : Proceeds a (gateStopped cause op s) := by
  cases cause <;> simp [gateStopped, h, hw]

@[simp] theorem huntExpires_proceeds : Proceeds a (huntExpires op s) := by
  unfold huntExpires
  cases s.codec.mode <;> simp [h, hw]

@[simp] theorem beginFormat_proceeds (cylinder head : Byte) : Proceeds a (beginFormat cylinder head op s) := by
  unfold beginFormat
  dsimp only
  split <;> simp [h, hw]

@[simp] theorem beginSpinUp_proceeds : Proceeds a (beginSpinUp op s) := by
  unfold beginSpinUp
  dsimp only
  split <;> simp [askSpeed, h, hw, Account.begin_of_working]

@[simp] theorem beginSpinDown_proceeds : Proceeds a (beginSpinDown op s) := by
  unfold beginSpinDown
  dsimp only
  split <;> simp [h, hw, Account.begin_of_working]

end

/-- A request handed to the engine is begun, and may have ended at once (06 R91). -/
theorem beginOp_proceeds (tag : Tag) (req : Request) (s : State) :
    Proceeds ((accountOf s.queue s.engine).begin tag) (beginOp tag req s) := by
  have hw : ((accountOf s.queue s.engine).begin tag).working = some (Op.begin tag req).tag := rfl
  have h : accountOf s.queue (s.setOp (Op.begin tag req)).engine = (accountOf s.queue s.engine).begin tag := rfl
  unfold beginOp
  cases req with
  | read | write | verify | reassign => exact translateBlock_proceeds _ _ h hw _
  | format => exact beginFormat_proceeds _ _ h hw _ _
  | recal => exact proceeds_of_eq (by simp; rfl)
  | spin mode =>
    dsimp only
    split
    · exact beginSpinUp_proceeds _ _ h hw
    · exact beginSpinDown_proceeds _ _ h hw

/-! ## Reports to the engine -/

section
variable {a : Account} (s : State) (h : accountOf s.queue s.engine = a)
include h

@[simp] theorem codecReport_proceeds (r : CodecReport) : Proceeds a (codecReport r s) := by
  unfold codecReport
  split
  · exact proceeds_of_eq h
  · have hw := h ▸ working_tag ‹_› s.queue
    cases r with
    | read o => cases o <;> simp [h, hw]
    | written | trackDone | refused | torn | abandoned => simp [h, hw]

@[simp] theorem positionReport_proceeds (r : PosReport) : Proceeds a (positionReport r s) := by
  unfold positionReport
  split
  · exact proceeds_of_eq h
  · have hw := h ▸ working_tag ‹_› s.queue
    cases r with
    | settled | seekFault | refused | recalFailed => dsimp only; split <;> simp [h, hw]
    | recalDone => dsimp only; split <;> [skip; split] <;> simp [h, hw]

@[simp] theorem positionReport?_proceeds (r : Option PosReport) : Proceeds a (positionReport? r s) := by
  cases r <;> simp [positionReport?, h]

@[simp] theorem lockedReport_proceeds : Proceeds a (lockedReport s) := by
  unfold lockedReport
  split
  · exact proceeds_of_eq h
  · have hw := h ▸ working_tag ‹_› s.queue
    split
    · split <;> simp [h, hw]
    · exact proceeds_of_eq h

@[simp] theorem lockLostReport_proceeds : Proceeds a (lockLostReport s) := by
  unfold lockLostReport
  split
  · exact proceeds_of_eq h
  · have hw := h ▸ working_tag ‹_› s.queue
    split <;> simp [h, hw, Account.begin_of_working]

@[simp] theorem timeoutReport_proceeds : Proceeds a (timeoutReport s) := by
  unfold timeoutReport
  split
  · exact proceeds_of_eq h
  · have hw := h ▸ working_tag ‹_› s.queue
    split <;> simp [h, hw]

@[simp] theorem stoppedReport_proceeds : Proceeds a (stoppedReport s) := by
  unfold stoppedReport
  split
  · exact proceeds_of_eq h
  · have hw := h ▸ working_tag ‹_› s.queue
    split <;> simp [h, hw]

@[simp] theorem addressSeen_proceeds (id : SectorId) : Proceeds a (addressSeen id s) := by
  unfold addressSeen
  split
  · exact proceeds_of_eq h
  · have hw := h ▸ working_tag ‹_› s.queue
    split <;> simp [h, hw]

@[simp] theorem addressMatched_proceeds : Proceeds a (addressMatched s) := by
  unfold addressMatched
  split
  · exact proceeds_of_eq h
  · have hw := h ▸ working_tag ‹_› s.queue
    split <;> simp [h, hw, Account.begin_of_working]

@[simp] theorem revolutionTold_proceeds : Proceeds a (revolutionTold s) := by
  refine proceeds_of_eq (h ▸ ?_)
  unfold revolutionTold accountOf
  cases s.engine.op with
  | none => rfl
  | some op =>
    simp only [Option.map_some]
    split_ifs <;> rfl

/-! ## The codec's commands, the write-protect sense and the spindle -/

@[simp] theorem addressEnd_proceeds (target : SectorId) (action : Action) (r : AddressRead) :
    Proceeds a (addressEnd target action r s) := by
  unfold addressEnd
  cases r with
  | more | fault | badCheck => exact proceeds_of_eq h
  | good id => dsimp only; split <;> simp [matchTarget, h]

@[simp] theorem dataEnd_proceeds (action : Action) (r : DataRead) : Proceeds a (dataEnd action r s) := by
  cases r <;> simp [dataEnd, endDecodeFault, State.countDecodeFault, h]

@[simp] theorem gapEnd_proceeds (target : SectorId) (ref : DataRef) : Proceeds a (gapEnd target ref s) := by
  unfold gapEnd
  split <;> simp [h]

@[simp] theorem dropGate_proceeds : Proceeds a (dropGate s) := by
  unfold dropGate
  split <;> simp [h]

@[simp] theorem senseChange_proceeds (active : Bool) : Proceeds a (senseChange active s) := by
  cases active <;> simp [senseChange, h]

@[simp] theorem becomeLocked_proceeds : Proceeds a (becomeLocked s) := by
  simp [becomeLocked, h]

@[simp] theorem becomeLost_proceeds (detail : BitVec 24) : Proceeds a (becomeLost detail s) := by
  refine Proceeds.trans (t := codecLockLost (loseSpindle detail s)) ?_ (lockLostReport_proceeds _ rfl)
  unfold codecLockLost
  split <;> simp [h]

@[simp] theorem codecPulse_proceeds (ns : Nat) : Proceeds a (codecPulse ns s) := by
  unfold codecPulse
  split
  · split <;> simp [h]
  · dsimp only
    split
    · simp [h]
    · split <;> simp [h]
  all_goals exact proceeds_of_eq h

theorem closeRevolution_proceeds (m : Nat) : Proceeds a (closeRevolution m s) := by
  rw [closeRevolution_eq m s _ rfl]
  refine Proceeds.trans ?_ (revolutionTold_proceeds _ rfl)
  split
  · simp [h]
  · split <;> simp [h]

@[simp] theorem spindlePulse_proceeds (ns : Nat) : Proceeds a (spindlePulse ns s) := by
  unfold spindlePulse
  cases s.spindle.state with
  | stopped | stopping => exact proceeds_of_eq h
  | starting | locked | retargeting | lost =>
    dsimp only
    split
    · exact proceeds_of_eq h
    · exact closeRevolution_proceeds _ (by exact h) _

end

@[simp] theorem stepExpiry_account (trk0 : Bool) (s : State) :
    accountOf (stepExpiry trk0 s).1.queue (stepExpiry trk0 s).1.engine = accountOf s.queue s.engine := by
  unfold stepExpiry
  cases s.pos.state with
  | stepping => dsimp only; split <;> simp
  | recalibrating => dsimp only; split <;> [skip; split] <;> simp
  | unknown | idle | settling => rfl

@[simp] theorem settleExpiry_account (trk0 : Bool) (s : State) :
    accountOf (settleExpiry trk0 s).1.queue (settleExpiry trk0 s).1.engine = accountOf s.queue s.engine := by
  unfold settleExpiry
  cases s.pos.state with
  | settling => dsimp only; split <;> simp
  | unknown | idle | stepping | recalibrating => rfl

/-! ## Selections (05 R78) -/

theorem eligibleFrom_sublist (older records : List Record) : (eligibleFrom older records).Sublist records := by
  induction records generalizing older with
  | nil => exact .slnil
  | cons r rs ih =>
    unfold eligibleFrom
    split
    · exact (ih _).cons_cons r
    · exact (ih _).cons r

theorem nearest_mem {t : Tables} {current : Nat} {es : List Record} {r : Record} (h : nearest t current es = some r) :
    r ∈ es := by
  induction es with
  | nil => cases h
  | cons x xs ih =>
    unfold nearest at h
    split at h
    · cases h
      exact List.mem_cons_self
    · split at h
      · cases h
        exact List.mem_cons_self
      · cases h
        exact List.mem_cons_of_mem _ (ih ‹_›)

theorem candidateIn_mem {t : Tables} {current : Nat} {d : Direction} {es : List Record} {r : Record}
    (h : candidateIn t current d es = some r) : r ∈ es :=
  List.mem_of_mem_filter (nearest_mem h)

/-- The choice is one of the eligible records. -/
theorem choose_mem {t : Tables} {current : Nat} {d e : Direction} {es : List Record} {r : Record}
    (h : choose t current d es = some (r, e)) : r ∈ es := by
  unfold choose at h
  split at h
  · cases h
    exact List.mem_of_find?_eq_some ‹_›
  · split at h
    · cases h
      exact List.mem_of_find?_eq_some ‹_›
    · unfold elevator at h
      split at h
      · cases h
        exact candidateIn_mem ‹_›
      · obtain ⟨x, hx, he⟩ := Option.map_eq_some_iff.1 h
        cases he
        exact candidateIn_mem hx

theorem selection_mem {s : State} {r : Record} {d : Direction} (h : selection s = some (r, d)) :
    r ∈ s.queue.records :=
  (eligibleFrom_sublist _ _).subset (choose_mem h)

theorem Queue.select_tags (q : Queue) (chosen : Tag) (passed : List Tag) (d : Direction) :
    (q.select chosen passed d).records.map (·.tag) = q.records.map (·.tag) := by
  simp only [Queue.select, List.map_map]
  refine List.map_congr_left fun r _ => ?_
  simp only [Function.comp_apply]
  split_ifs <;> rfl

theorem accountOf_select (q : Queue) (chosen : Tag) (passed : List Tag) (d : Direction) (e : Engine) :
    accountOf (q.select chosen passed d) e = accountOf q e := by
  rw [accountOf, Queue.select_tags]
  rfl

/-- A selection chooses a tag in use, so that law 1 holds while the engine works for it and after it. -/
theorem scheduleLoop_balanced (fuel : Nat) (s : State) (h : Balanced s) : Balanced (scheduleLoop fuel s) := by
  induction fuel generalizing s with
  | zero => exact h
  | succ fuel ih =>
    unfold scheduleLoop
    split
    · exact h
    · split
      · exact h
      · rename_i r d hsel
        have hmem : r.tag ∈ (accountOf s.queue s.engine).tags := List.mem_map_of_mem (selection_mem hsel)
        refine ih _ ((balanced_iff _).2 ((beginOp_proceeds _ _ _).sound ?_))
        rw [State.setQueue_queue, State.setQueue_engine, accountOf_select]
        exact ((balanced_iff s).1 h).begin hmem

@[simp] theorem schedule_balanced (s : State) (h : Balanced s) : Balanced (schedule s) := scheduleLoop_balanced _ s h

@[simp] theorem afterEngine_balanced (s t : State) (h : Balanced t) : Balanced (afterEngine s t) := by
  unfold afterEngine
  split <;> simp [h]

/-- A state with the same account meets law 1 as well. -/
theorem Balanced.of_account {s t : State} (h : Balanced s)
    (ht : accountOf t.queue t.engine = accountOf s.queue s.engine) : Balanced t :=
  (balanced_iff t).2 (ht ▸ (balanced_iff s).1 h)

theorem Balanced.proceeds {s t : State} (h : Balanced s) (ht : Proceeds (accountOf s.queue s.engine) t) : Balanced t :=
  (balanced_iff t).2 (ht.sound ((balanced_iff s).1 h))

/-- The DONE of a tag in use keeps law 1 (05 R68). -/
theorem produceDone_balanced {s : State} (h : Balanced s) {tag : Tag} (ht : tag ∈ s.queue.records.map (·.tag))
    (report : DoneReport) : Balanced (produceDone tag report s) := by
  rw [balanced_iff, produceDone_engine, accountOf_produceDone]
  exact ((balanced_iff s).1 h).done ht

theorem Queue.find_mem_tags {q : Queue} {tag : Tag} {r : Record} (h : q.find tag = some r) :
    tag ∈ q.records.map (·.tag) :=
  List.mem_map.2 ⟨r, List.mem_of_find?_eq_some h, Queue.find_tag h⟩

/-! ## Frames of the host -/

theorem manage_balanced (act : State → State) (s : State) (h : Balanced s) (ha : Balanced (act s)) :
    Balanced (manage act s) := by
  unfold manage
  split
  · exact h
  · split
    · exact ha
    · exact h.of_account (by simp [countOverrun])

@[simp] theorem stopLoad_account (seq : Byte) (id : TableId) (r : Rejection) (s : State) :
    accountOf (stopLoad seq id r s).queue (stopLoad seq id r s).engine = accountOf s.queue s.engine := by
  unfold stopLoad
  dsimp only
  split <;> simp

theorem loadOpen_account (seq table : Byte) (s : State) :
    accountOf (loadOpen seq table s).queue (loadOpen seq table s).engine = accountOf s.queue s.engine := by
  unfold loadOpen
  split
  · simp
  · split <;> simp

theorem loadPut_account (seq : Byte) (bytes : List Byte) (s : State) :
    accountOf (loadPut seq bytes s).queue (loadPut seq bytes s).engine = accountOf s.queue s.engine := by
  unfold loadPut
  split
  · simp
  · dsimp only
    split
    · simp
    · split <;> simp

theorem loadClose_account (seq : Byte) (s : State) :
    accountOf (loadClose seq s).queue (loadClose seq s).engine = accountOf s.queue s.engine := by
  unfold loadClose
  split
  · simp
  · dsimp only
    split
    · simp
    · split <;> simp

theorem loadDrop_account (seq table : Byte) (s : State) :
    accountOf (loadDrop seq table s).queue (loadDrop seq table s).engine = accountOf s.queue s.engine := by
  unfold loadDrop
  split <;> simp

theorem commit_account (seq : Byte) (s : State) :
    accountOf (commit seq s).queue (commit seq s).engine = accountOf s.queue s.engine := by
  unfold commit
  split
  · simp
  · split
    · simp
    · split
      · split <;> simp [installSet]
      · simp

theorem tableGet_account (seq table first : Byte) (s : State) :
    accountOf (tableGet seq table first s).queue (tableGet seq table first s).engine = accountOf s.queue s.engine := by
  unfold tableGet
  split <;> simp

theorem wipe_account (seq : Byte) (s : State) :
    accountOf (wipe seq s).queue (wipe seq s).engine = accountOf s.queue s.engine := by
  unfold wipe
  split <;> simp

/-- A QUERY with CLEAR zeroes counters of the queue and of the engine, none of the account (11 R196). -/
theorem query_account (seq flags : Byte) (s : State) :
    accountOf (query seq flags s).queue (query seq flags s).engine = accountOf s.queue s.engine := by
  have clear (t : State) :
      accountOf t.clearCounters.queue t.clearCounters.engine = accountOf t.queue t.engine := rfl
  unfold query
  dsimp only
  split
  · simp
  · split <;> simp [clear]

theorem eventSet_account (seq : Byte) (mask : BitVec 16) (s : State) :
    accountOf (eventSet seq mask s).queue (eventSet seq mask s).engine = accountOf s.queue s.engine := by
  unfold eventSet
  split <;> simp

theorem eventAck_account (seq acked : Byte) (s : State) :
    accountOf (eventAck seq acked s).queue (eventAck seq acked s).engine = accountOf s.queue s.engine := by
  unfold eventAck
  split <;> simp

theorem removeWaiting_account (r : Record) (s : State) :
    accountOf (removeWaiting r s).queue (removeWaiting r s).engine = accountOf s.queue s.engine := by
  unfold removeWaiting
  cases r.state <;> simp [State.leaveAwaitData]

theorem markAbort_account (s : State) :
    accountOf (markAbort s).queue (markAbort s).engine = accountOf s.queue s.engine := by
  unfold markAbort
  cases ho : s.engine.op with
  | none => rfl
  | some op =>
    have hw : (accountOf s.queue s.engine).working = some op.tag := by simp [accountOf, ho]
    exact Account.begin_of_working hw

theorem removeWaiting_tags (r : Record) (s : State) :
    (removeWaiting r s).queue.records.map (·.tag) = s.queue.records.map (·.tag) :=
  congrArg Account.tags (removeWaiting_account r s)

theorem Queue.refuses_iff (q : Queue) (tag : Tag) :
    q.refuses tag = true ↔ q.credits ≤ q.unsent.length ∨ tag ∈ q.records.map (·.tag) := by
  simp [Queue.refuses, Queue.inUse]

section
variable (s : State) (h : Balanced s)
include h

theorem abort_balanced (seq : Byte) (tag : Tag) : Balanced (abort seq tag s) := by
  have replied (body : ReplyBody) : Balanced (produceReply seq body s) := h.of_account (by simp)
  unfold abort
  split
  · exact replied _
  · rename_i r hr
    have waiting : Balanced
        (schedule (produceDone tag (endedEarly .aborted) (removeWaiting r (produceReply seq .ok s)))) :=
      schedule_balanced _ (produceDone_balanced ((replied .ok).of_account (removeWaiting_account ..))
        (by simpa [removeWaiting_tags] using Queue.find_mem_tags hr) _)
    cases hst : r.state with
    | active => exact (replied .ok).of_account (markAbort_account _)
    | accepted | awaitPages | awaitData | ready => exact waiting

/-- The tag and the credit a new record takes (05 R70). -/
theorem accept_balanced (tag : Tag) (req : Request) (hc : s.queue.unsent.length < s.queue.credits)
    (ht : tag ∉ s.queue.records.map (·.tag)) : Balanced (accept tag req s) := by
  have taken : Balanced (s.setQueue (s.queue.accept tag req)) := by
    obtain ⟨hd, hs, hw⟩ := h
    refine ⟨?_, ?_, fun op ho => ?_⟩
    · simpa [Queue.accept, List.nodup_append, hd] using ht
    · simp [Queue.accept]
      omega
    · have := hw op ho
      simp_all [Queue.accept]
  unfold accept
  dsimp only
  split
  · exact schedule_balanced _ (produceDone_balanced taken (by simp [Queue.accept]) _)
  · refine schedule_balanced _ (taken.of_account ?_)
    unfold enterWaiting
    split <;> simp [State.setReqState]

theorem takeRequest_balanced (tag : Tag) (req : Request) : Balanced (takeRequest tag req s) := by
  unfold takeRequest
  split
  · exact h
  · split
    · exact h.of_account rfl
    · have hr : ¬ (s.queue.refuses tag = true) := ‹_›
      rw [Queue.refuses_iff, not_or, Nat.not_le] at hr
      exact accept_balanced s h tag req hr.1 hr.2

theorem takeBlock_balanced (tag : Tag) (index : Byte) (data : List Byte) : Balanced (takeBlock tag index data s) := by
  have filled : Balanced (fillBlock tag index.toNat data s) := h.of_account (by
    rw [fillBlock_queue]
    unfold fillBlock
    dsimp only
    split <;> rfl)
  unfold takeBlock bufferBlock
  dsimp only
  split
  · exact h
  · split
    · split
      · split
        · exact schedule_balanced _ (filled.of_account (by simp [writeReady, State.leaveAwaitData, State.setReqState]))
        · exact filled
      · exact h.of_account rfl
    · exact h.of_account (by simp [countBadLength])

theorem countBadLength_balanced : Balanced (countBadLength s) := h.of_account (by simp [countBadLength])

theorem takeLoadPut_balanced (seq : Byte) (entries : List Byte) : Balanced (takeLoadPut seq entries s) := by
  unfold takeLoadPut
  split
  · exact h
  · split
    · exact manage_balanced _ s h (h.of_account (loadPut_account ..))
    · exact countBadLength_balanced s h

theorem deliver_balanced (i : Instr) : Balanced (deliver i s) := by
  cases i with
  | read | write | verify | format | reassign | recal | spin => exact takeRequest_balanced s h _ _
  | block => exact takeBlock_balanced s h _ _ _
  | loadPut => exact takeLoadPut_balanced s h _ _
  | abort seq tag => exact manage_balanced _ s h (abort_balanced s h seq tag)
  | loadOpen => exact manage_balanced _ s h (h.of_account (loadOpen_account ..))
  | loadClose => exact manage_balanced _ s h (h.of_account (loadClose_account ..))
  | loadDrop => exact manage_balanced _ s h (h.of_account (loadDrop_account ..))
  | commit => exact manage_balanced _ s h (h.of_account (commit_account ..))
  | tableGet => exact manage_balanced _ s h (h.of_account (tableGet_account ..))
  | wipe => exact manage_balanced _ s h (h.of_account (wipe_account ..))
  | query => exact manage_balanced _ s h (h.of_account (query_account ..))
  | eventSet => exact manage_balanced _ s h (h.of_account (eventSet_account ..))
  | eventAck => exact manage_balanced _ s h (h.of_account (eventAck_account ..))
  | _ => exact h

theorem judge_balanced (len : Nat) (bytes : List Byte) : Balanced (judge len bytes s) := by
  unfold judge
  split
  · exact h.of_account (by simp [countBadCrc])
  · split
    · split
      · exact deliver_balanced s h _
      · exact countBadLength_balanced s h
    · exact countBadLength_balanced s h

theorem takeByte_balanced (b : Byte) : Balanced (takeByte b s) := by
  have moved (rx : Receiver) : Balanced (s.setRx rx) := h.of_account rfl
  unfold takeByte receiveByte
  split
  · exact h
  · split
    · split
      · exact moved _
      · exact h
    · exact moved _
    · split
      · exact moved _
      · exact countBadLength_balanced _ (moved _)
    · split
      · exact moved _
      · exact judge_balanced _ (moved _) _ _

/-! ## Frames sent -/

theorem freeLane_balanced : Balanced (freeLane s) := h.of_account (by simp)

theorem drained_balanced (tag : Tag) : Balanced (drained tag s) := by
  unfold drained
  split
  · split
    · split
      · exact produceDone_balanced h (Queue.find_mem_tags ‹_›) _
      · exact h
    · exact h
  · exact h

theorem pageGone_balanced (tag : Tag) (page : Nat) : Balanced (pageGone tag page s) :=
  drained_balanced _ (h.of_account (by simp)) tag

end

/-! ## Resets -/

theorem reset_sound (refused reads writes reallocs : Counter) :
    (accountOf { Queue.reset with refused := refused } ⟨none, reads, writes, reallocs⟩).Sound :=
  ⟨.nil, rfl, nofun⟩

@[simp] theorem produceNotice_account (s : State) :
    accountOf (produceNotice s).queue (produceNotice s).engine = accountOf s.queue s.engine := by
  unfold produceNotice
  split <;> simp

/-! ## The commands -/

/-- A frame of the host as a command of its own is the frame handed to its owner (09 R157). -/
theorem exec_hostFrame (i : Instr) (s : State) (h : (encodeFrame i).isSome = true) :
    exec i s = .next (deliver i s) := by
  cases i with
  | read | write | verify | format | reassign | recal | spin | block | loadPut | abort | loadOpen | loadClose
  | loadDrop | commit | tableGet | wipe | query | eventSet | eventAck => rfl
  | _ => cases h

theorem dataTimerRuns_inUse {tag : Tag} {s : State} (h : dataTimerRuns tag s = true) :
    tag ∈ s.queue.records.map (·.tag) := by
  unfold dataTimerRuns at h
  split at h
  · exact Queue.find_mem_tags ‹_›
  · cases h

/-- Law 1 through every command. -/
theorem exec_balanced (i : Instr) (s t : State) (h : Balanced s) (he : exec i s = .next t) : Balanced t := by
  have worked {u : State} (hu : Proceeds (accountOf s.queue s.engine) u) : Balanced (afterEngine s u) :=
    afterEngine_balanced s u (h.proceeds hu)
  by_cases hf : (encodeFrame i).isSome = true
  · rw [exec_hostFrame i s hf] at he
    cases he
    exact deliver_balanced s h i
  cases i with
  | powerOn =>
    cases he
    exact (balanced_iff _).2 (produceNotice_account _ ▸ reset_sound 0 0 0 0)
  | reset =>
    simp only [exec, execReset] at he
    split at he <;> cases he
    · exact h
    · exact (balanced_iff _).2 (reset_sound 0 0 0 0)
  | lrst bits =>
    simp only [exec, execLrst] at he
    split at he <;> cases he
    · exact h
    · exact (balanced_iff _).2 (reset_sound _ _ _ _)
  | resetRelease line =>
    simp only [exec, execResetRelease] at he
    split at he <;> cases he
    · split
      · exact h.of_account rfl
      · exact h.of_account (produceNotice_account _)
    · exact h
  | hiByte bits =>
    simp only [exec, execHiByte] at he
    split at he <;> cases he
    · exact h.of_account rfl
    · exact takeByte_balanced _ (by exact h.of_account rfl) _
  | read | write | verify | format | reassign | recal | spin | block | loadPut | abort | loadOpen | loadClose
  | loadDrop | commit | tableGet | wipe | query | eventSet | eventAck => exact absurd rfl hf
  | noticeSent | replySent | doneSent | callSent | eventSent =>
    simp only [exec, execNoticeSent, execReplySent, execDoneSent, execCallSent, execEventSent] at he
    split at he <;> cases he
    · exact freeLane_balanced _ (by exact h.of_account rfl)
    · exact h
  | blockSent =>
    simp only [exec, execBlockSent] at he
    split at he <;> cases he
    · exact schedule_balanced _ (freeLane_balanced _ (pageGone_balanced s h _ _))
    · exact h
  | dataTimeout tag =>
    simp only [exec, execDataTimeout] at he
    split at he <;> cases he
    · have left : Balanced (s.leaveAwaitData tag) := h.of_account rfl
      have inUse : tag ∈ s.queue.records.map (·.tag) := dataTimerRuns_inUse ‹_›
      exact schedule_balanced _ (produceDone_balanced left inUse _)
    · exact h
  | enterLocked | enterLost | stallTimeout | spinupTimeout | retargetTimeout | silenceTimeout =>
    simp only [exec, execEnterLocked, execEnterLost, execStallTimeout, execSpinupTimeout, execRetargetTimeout,
      execSilenceTimeout] at he
    split at he <;> cases he
    · exact worked (by simp)
    · exact h
  | idleTimeout | resendTimeout =>
    simp only [exec, execIdleTimeout, execResendTimeout] at he
    split at he <;> cases he
    · exact h.of_account (by simp [resendHead])
    · exact h
  | stepTimerExpiry | settleTimerExpiry =>
    simp only [exec, execStepTimerExpiry, execSettleTimerExpiry] at he
    split at he <;> cases he
    · exact worked (by simp)
    · exact h
  | addressFieldEnd bits =>
    simp only [exec, execAddressFieldEnd] at he
    split at he <;> cases he
    · exact worked (by simp)
    · exact h.of_account rfl
    all_goals exact h
  | huntTimeout =>
    simp only [exec, execHuntTimeout] at he
    split at he
    · split at he <;> cases he
      · exact worked (huntExpires_proceeds _ _ rfl (working_tag ‹_› _))
      · exact h
    · cases he
      exact h
  | dataMarkTimeout | dataReadEnd =>
    simp only [exec, execDataMarkTimeout, execDataReadEnd] at he
    split at he <;> cases he
    · exact worked (dataEnd_proceeds s rfl _ _)
    all_goals exact h
  | gap2End =>
    simp only [exec, execGap2End] at he
    split at he <;> cases he
    · exact worked (gapEnd_proceeds s rfl _ _)
    all_goals exact h
  | written =>
    simp only [exec, execWritten] at he
    split at he <;> cases he
    · exact worked (codecReport_proceeds s.codecIdle rfl _)
    all_goals exact h
  | tachPulse ns =>
    cases he
    exact worked ((codecPulse_proceeds s rfl ns).trans (spindlePulse_proceeds _ rfl ns))
  | wprotChange active =>
    simp only [exec, execWprotChange] at he
    split at he <;> cases he
    · exact h.of_account rfl
    · exact worked (senseChange_proceeds _ (by rfl) _)
  | vretLoss =>
    cases he
    exact h.of_account rfl

/-- Settles O4: a new record takes one tag and one credit, a DONE gives them back for a tag in use, the engine works for
a tag a selection chose among those in use, and nothing else touches the account. -/
theorem balancedKept : Obligations.BalancedKept := by
  intro s t h hs
  unfold step at hs
  split at hs
  · cases hs
    exact h
  · exact exec_balanced _ _ t (by exact h.of_account rfl) hs

end Sys2Proof.Machine
end

section
/-!
PROOFS. Selections (05 R75 to R83): who is eligible, the choice among the eligible requests, and what a selection does.
-/

namespace Sys2Proof.Machine

/-! ## Eligibility (05 R75 to R77) -/

theorem Request.conflicts_iff (a b : Request) : a.conflicts b = true ↔
    (a.isWrite = true ∨ b.isWrite = true) ∧ ∃ lba, a.firstLba ≤ lba ∧ lba < a.firstLba + a.blocks ∧
      b.firstLba ≤ lba ∧ lba < b.firstLba + b.blocks := by
  have shared : max a.firstLba b.firstLba < min (a.firstLba + a.blocks) (b.firstLba + b.blocks) ↔
      ∃ lba, a.firstLba ≤ lba ∧ lba < a.firstLba + a.blocks ∧ b.firstLba ≤ lba ∧ lba < b.firstLba + b.blocks := by
    constructor
    · intro h
      exact ⟨max a.firstLba b.firstLba, by omega⟩
    · rintro ⟨lba, h⟩
      omega
  simp only [Request.conflicts, Bool.and_eq_true, Bool.or_eq_true, decide_eq_true_eq, shared, and_comm]

theorem eligible_iff (older : List Record) (r : Record) : eligible older r = true ↔
    r.state = .ready ∧ (∀ o ∈ older, o.req.isBarrier = false) ∧ (r.req.isBarrier = true → older = []) ∧
      ∀ o ∈ older, ¬ o.req.conflicts r.req = true := by
  simp only [eligible, Bool.and_eq_true, beq_iff_eq, Bool.not_eq_true', List.any_eq_false, Bool.and_eq_false_iff,
    Bool.not_eq_false', List.isEmpty_iff, Bool.not_eq_true]
  cases r.req.isBarrier <;> simp <;> tauto

/-- A record is chosen from by its own form and the records before it, in whatever order those are held. -/
theorem mem_eligibleFrom (before records : List Record) (r : Record) : r ∈ eligibleFrom before records ↔
    ∃ older younger, records = older ++ r :: younger ∧ eligible (older.reverse ++ before) r = true := by
  induction records generalizing before with
  | nil => simp [eligibleFrom]
  | cons x xs ih =>
    have step : r ∈ eligibleFrom before (x :: xs) ↔
        (r = x ∧ eligible before x = true) ∨ r ∈ eligibleFrom (x :: before) xs := by
      by_cases h : eligible before x = true <;> simp [eligibleFrom, h]
    rw [step, ih]
    constructor
    · rintro (⟨rfl, h⟩ | ⟨older, younger, rfl, h⟩)
      · exact ⟨[], xs, rfl, h⟩
      · exact ⟨x :: older, younger, rfl, by simpa using h⟩
    · rintro ⟨older, younger, hl, h⟩
      cases older with
      | nil =>
        cases hl
        exact .inl ⟨rfl, h⟩
      | cons y older =>
        cases hl
        exact .inr ⟨older, younger, rfl, by simpa using h⟩

/-- Settles O15: a record is eligible by its own state and by what stands before it in the table. -/
theorem eligibilityRule : Obligations.EligibilityRule := by
  intro records
  refine ⟨eligibleFrom_sublist _ _, fun r => ?_⟩
  simp only [mem_eligibleFrom, List.append_nil, eligible_iff, List.mem_reverse, List.reverse_eq_nil_iff,
    Request.conflicts_iff]

/-! ## The choice (05 R79 to R81) -/

theorem nearest_eq_none {t : Tables} {current : Nat} {es : List Record} : nearest t current es = none ↔ es = [] := by
  cases es with
  | nil => simp [nearest]
  | cons x xs =>
    unfold nearest
    split
    · simp
    · split <;> simp

/-- The oldest of the nearest: no candidate is nearer, and each one older is farther. -/
theorem nearest_some {t : Tables} {current : Nat} {es : List Record} {r : Record} (h : nearest t current es = some r) :
    ∃ older younger, es = older ++ r :: younger ∧
      (∀ o ∈ es, distance current (targetCylinder t r) ≤ distance current (targetCylinder t o)) ∧
      ∀ o ∈ older, distance current (targetCylinder t r) < distance current (targetCylinder t o) := by
  induction es generalizing r with
  | nil => cases h
  | cons x xs ih =>
    unfold nearest at h
    split at h
    case h_1 hn =>
      cases h
      rw [nearest_eq_none] at hn
      exact ⟨[], xs, rfl, by simp [hn], by simp⟩
    case h_2 q hq =>
      obtain ⟨older, younger, hxs, hle, hlt⟩ := ih hq
      split at h
      · cases h
        refine ⟨[], xs, rfl, fun o ho => ?_, by simp⟩
        obtain rfl | ho := List.mem_cons.1 ho
        · exact Nat.le_refl _
        · exact Nat.le_trans ‹_› (hle o ho)
      · cases h
        have hx : distance current (targetCylinder t r) < distance current (targetCylinder t x) := Nat.not_le.1 ‹_›
        refine ⟨x :: older, younger, by rw [hxs]; rfl, fun o ho => ?_, fun o ho => ?_⟩
        · obtain rfl | ho := List.mem_cons.1 ho
          · exact Nat.le_of_lt hx
          · exact hle o ho
        · obtain rfl | ho := List.mem_cons.1 ho
          · exact hx
          · exact hlt o ho

theorem candidateIn_eq_none {t : Tables} {current : Nat} {d : Direction} {es : List Record} :
    candidateIn t current d es = none ↔ ∀ o ∈ es, ¬ d.holds current (targetCylinder t o) = true := by
  rw [candidateIn, nearest_eq_none, List.filter_eq_nil_iff]

theorem candidateIn_some {t : Tables} {current : Nat} {d : Direction} {es : List Record} {r : Record}
    (h : candidateIn t current d es = some r) :
    ∃ older younger, es = older ++ r :: younger ∧ d.holds current (targetCylinder t r) = true ∧
      (∀ o ∈ es, d.holds current (targetCylinder t o) = true →
        distance current (targetCylinder t r) ≤ distance current (targetCylinder t o)) ∧
      ∀ o ∈ older, d.holds current (targetCylinder t o) = true →
        distance current (targetCylinder t r) < distance current (targetCylinder t o) := by
  obtain ⟨olderIn, youngerIn, hes, hle, hlt⟩ := nearest_some h
  obtain ⟨before, rest, rfl, hbefore, hrest⟩ := List.filter_eq_append_iff.1 hes
  obtain ⟨between, younger, rfl, hbetween, hr, -⟩ := List.filter_eq_cons_iff.1 hrest
  refine ⟨before ++ between, younger, by simp, hr, fun o ho hd => hle o (List.mem_filter.2 ⟨ho, hd⟩),
    fun o ho hd => ?_⟩
  obtain ho | ho := List.mem_append.1 ho
  · exact hlt o (hbefore ▸ List.mem_filter.2 ⟨ho, hd⟩)
  · exact absurd hd (hbetween o ho)

/-- Every target is a candidate in one direction or the other. -/
theorem Direction.holds_or_reverse (d : Direction) (current target : Nat) :
    d.holds current target = true ∨ d.reverse.holds current target = true := by
  cases d <;> simp only [Direction.holds, Direction.reverse, decide_eq_true_eq] <;> omega

theorem Direction.reverse_ne (d : Direction) : d.reverse ≠ d := by
  cases d <;> nofun

theorem elevator_isSome {t : Tables} {current : Nat} {d : Direction} {es : List Record} (h : es ≠ []) :
    (elevator t current d es).isSome = true := by
  obtain ⟨x, hx⟩ := List.exists_mem_of_ne_nil es h
  unfold elevator
  cases hc : candidateIn t current d es with
  | some r => rfl
  | none =>
    cases hc' : candidateIn t current d.reverse es with
    | some r => rfl
    | none =>
      obtain hd | hd := d.holds_or_reverse current (targetCylinder t x)
      · exact absurd hd (candidateIn_eq_none.1 hc x hx)
      · exact absurd hd (candidateIn_eq_none.1 hc' x hx)

/-- The elevator's request is the nearest in the direction it leaves, which is the old one unless that has no
candidate. -/
theorem elevator_some {t : Tables} {current : Nat} {d e : Direction} {es : List Record} {r : Record}
    (h : elevator t current d es = some (r, e)) : candidateIn t current e es = some r ∧
      (e = d ∨ e ≠ d ∧ ∀ o ∈ es, ¬ d.holds current (targetCylinder t o) = true) := by
  unfold elevator at h
  split at h
  · cases h
    exact ⟨‹_›, .inl rfl⟩
  · obtain ⟨x, hx, he⟩ := Option.map_eq_some_iff.1 h
    cases he
    exact ⟨hx, .inr ⟨d.reverse_ne, candidateIn_eq_none.1 ‹_›⟩⟩

theorem choose_isSome (t : Tables) (current : Nat) (d : Direction) (es : List Record) :
    (choose t current d es).isSome = true ↔ es ≠ [] := by
  constructor
  · intro h
    obtain ⟨⟨r, e⟩, hc⟩ := Option.isSome_iff_exists.1 h
    exact List.ne_nil_of_mem (choose_mem hc)
  · intro h
    unfold choose
    split
    · rfl
    · split
      · rfl
      · exact elevator_isSome h

theorem choose_promoted {t : Tables} {current : Nat} {d : Direction} {es : List Record} {r : Record}
    (h : es.find? (fun r => decide (8 ≤ r.passCount)) = some r) : choose t current d es = some (r, d) := by
  rw [choose, h]

theorem find?_promoted_eq_none {es : List Record} (h : ∀ o ∈ es, o.passCount < 8) :
    es.find? (fun r => decide (8 ≤ r.passCount)) = none :=
  List.find?_eq_none.2 fun o ho => by simpa using h o ho

theorem choose_barrier {t : Tables} {current : Nat} {d : Direction} {es : List Record} {r : Record}
    (h : ∀ o ∈ es, o.passCount < 8) (hb : es.find? (·.req.isBarrier) = some r) :
    choose t current d es = some (r, d) := by
  simp only [choose, find?_promoted_eq_none h, hb]

theorem choose_elevator {t : Tables} {current : Nat} {d : Direction} {es : List Record}
    (h : ∀ o ∈ es, o.passCount < 8) (hb : ∀ o ∈ es, o.req.isBarrier = false) :
    choose t current d es = elevator t current d es := by
  have none_barrier : es.find? (·.req.isBarrier) = none := List.find?_eq_none.2 fun o ho => by simp [hb o ho]
  simp only [choose, find?_promoted_eq_none h, none_barrier]

/-- The oldest that meets a condition is what the search from the oldest finds. -/
theorem find?_oldest {p : Record → Bool} {older younger : List Record} {r : Record} (hr : p r = true)
    (ho : ∀ o ∈ older, p o = false) : (older ++ r :: younger).find? p = some r :=
  List.find?_eq_some_iff_append.2 ⟨hr, older, younger, rfl, fun o h => by simp [ho o h]⟩

/-- Settles O16: promotion, then barriers, then the elevator, each from the oldest. -/
theorem choiceAmongEligible : Obligations.ChoiceAmongEligible := by
  intro t current d es
  refine ⟨choose_isSome t current d es, fun older r younger hes hr ho => ?_, fun older r younger hes hp hr ho => ?_,
    fun r e h hc => ?_⟩
  · exact choose_promoted (hes ▸ find?_oldest (by simpa using hr) fun o h => by simpa using ho o h)
  · exact choose_barrier hp (hes ▸ find?_oldest hr ho)
  · intro target side far
    have hside (x : Direction) (o : Record) : x.holds current (targetCylinder t o) = true ↔ side x o := by
      cases x <;> exact decide_eq_true_iff
    rw [choose_elevator (fun o ho => (h o ho).1) fun o ho => (h o ho).2] at hc
    obtain ⟨hcand, hdir⟩ := elevator_some hc
    obtain ⟨older, younger, hes, hr, hle, hlt⟩ := candidateIn_some hcand
    simp only [hside] at hdir hr hle hlt
    exact ⟨hdir, older, younger, hes, hr, hle, hlt⟩

/-! ## What a selection does (05 R78, R82, R83) -/

/-- The chosen request handed to the engine, ACTIVE and with the passes of the older eligible ones counted. -/
def handOver (s : State) (r : Record) (d : Direction) : State :=
  beginOp r.tag r.req
    (s.setQueue (s.queue.select r.tag (passedOver r.tag (eligibleFrom [] s.queue.records)) d))

theorem scheduleLoop_busy (fuel : Nat) {s : State} (h : s.engine.op.isSome = true) : scheduleLoop fuel s = s := by
  cases fuel <;> simp [scheduleLoop, h]

theorem scheduleLoop_none (fuel : Nat) {s : State} (h : selection s = none) : scheduleLoop fuel s = s := by
  cases fuel <;> simp [scheduleLoop, h]

theorem scheduleLoop_some (fuel : Nat) {s : State} {r : Record} {d : Direction} (ho : s.engine.op = none)
    (h : selection s = some (r, d)) : scheduleLoop (fuel + 1) s = scheduleLoop fuel (handOver s r d) := by
  simp [scheduleLoop, ho, h, handOver]

/-- A request that ends as it begins has left the tag table. -/
theorem beginOp_ended {tag : Tag} {req : Request} {s : State} (ht : tag ∈ s.queue.records.map (·.tag))
    (hended : (beginOp tag req s).engine.op = none) :
    (beginOp tag req s).queue.records.length < s.queue.records.length := by
  have idle : (accountOf (beginOp tag req s).queue (beginOp tag req s).engine).working = none := by
    simp [accountOf, hended]
  have count (t : State) : t.queue.records.length = (accountOf t.queue t.engine).tags.length := by simp [accountOf]
  obtain h | ⟨tag', hw, h⟩ := beginOp_proceeds tag req s
  · rw [h] at idle
    cases idle
  · cases hw
    rw [count, count, h]
    exact List.length_filter_lt_length_iff_exists.2 ⟨tag, ht, by simp⟩

theorem handOver_ended {s : State} {r : Record} {d : Direction} (hr : r ∈ s.queue.records)
    (hended : (handOver s r d).engine.op = none) :
    (handOver s r d).queue.records.length < s.queue.records.length := by
  have ht : r.tag ∈ s.queue.records.map (·.tag) := List.mem_map_of_mem hr
  rw [← Queue.select_tags] at ht
  exact (beginOp_ended (s := s.setQueue _) ht hended).trans_eq (by simp)

/-- One selection for each record is enough: each one ended at once takes its record. -/
theorem scheduleLoop_enough {m n : Nat} {s : State} (hm : s.queue.records.length ≤ m)
    (hn : s.queue.records.length ≤ n) : scheduleLoop m s = scheduleLoop n s := by
  induction m generalizing n s with
  | zero =>
    have hnil : s.queue.records = [] := List.length_eq_zero_iff.1 (Nat.le_zero.1 hm)
    have hsel : selection s = none := by simp [selection, hnil, eligibleFrom, choose, elevator, candidateIn, nearest]
    rw [scheduleLoop_none _ hsel, scheduleLoop_none _ hsel]
  | succ m ih =>
    cases ho : s.engine.op with
    | some op => rw [scheduleLoop_busy _ (by simp [ho]), scheduleLoop_busy _ (by simp [ho])]
    | none =>
      cases hsel : selection s with
      | none => rw [scheduleLoop_none _ hsel, scheduleLoop_none _ hsel]
      | some choice =>
        obtain ⟨r, d⟩ := choice
        have hmem := selection_mem hsel
        obtain ⟨n, rfl⟩ : ∃ k, n = k + 1 := ⟨n - 1, by have := List.length_pos_of_mem hmem; omega⟩
        rw [scheduleLoop_some _ ho hsel, scheduleLoop_some _ ho hsel]
        cases hu : (handOver s r d).engine.op with
        | some op => rw [scheduleLoop_busy _ (by simp [hu]), scheduleLoop_busy _ (by simp [hu])]
        | none =>
          have hlt := handOver_ended hmem hu
          exact ih (by omega) (by omega)

theorem schedule_none {s : State} (h : selection s = none) : schedule s = s := scheduleLoop_none _ h

/-- A selection is made once, and again from where the engine leaves the request. -/
theorem schedule_some {s : State} {r : Record} {d : Direction} (ho : s.engine.op = none)
    (h : selection s = some (r, d)) : schedule s = schedule (handOver s r d) := by
  have hmem := selection_mem h
  obtain ⟨n, hn⟩ : ∃ k, s.queue.records.length = k + 1 :=
    ⟨_, (Nat.succ_pred_eq_of_pos (List.length_pos_of_mem hmem)).symm⟩
  rw [schedule, hn, scheduleLoop_some _ ho h]
  cases hu : (handOver s r d).engine.op with
  | some op => rw [schedule, scheduleLoop_busy _ (by simp [hu]), scheduleLoop_busy _ (by simp [hu])]
  | none => exact scheduleLoop_enough (by have := handOver_ended hmem hu; omega) (Nat.le_refl _)

theorem passedOver_append (older younger : List Record) (r : Record) (h : ∀ o ∈ older, o.tag ≠ r.tag) :
    passedOver r.tag (older ++ r :: younger) = older.map (·.tag) := by
  rw [passedOver, List.takeWhile_append_of_pos fun o ho => by simpa using h o ho,
    List.takeWhile_cons_of_neg (by simp), List.append_nil]

/-- Settles O14: the choice from the current cylinder, and the hand-over, after which `schedule` goes on. -/
theorem selectionBegins : Obligations.SelectionBegins := by
  intro s es current
  have hcurrent : current = s.pos.state.currentCylinder := by cases hp : s.pos.state <;> simp only [current, hp] <;> rfl
  have hselection : selection s = choose s.tables current s.queue.direction es := by rw [hcurrent]; rfl
  refine ⟨?_, fun r d older younger ho hchoice hes holder => ?_⟩
  · rintro (hbusy | hnone)
    · exact schedule_busy s hbusy
    · refine schedule_none (Option.not_isSome_iff_eq_none.1 fun h => ?_)
      rw [hselection, choose_isSome] at h
      exact h hnone
  · intro s1
    have hs1 : handOver s r d = beginOp r.tag r.req s1 := by
      have hpassed : passedOver r.tag (eligibleFrom [] s.queue.records) = older.map (·.tag) := by
        rw [show eligibleFrom [] s.queue.records = older ++ r :: younger from hes]
        exact passedOver_append older younger r holder
      simp only [handOver, hpassed, Queue.select, beq_iff_eq, List.contains_iff_mem, s1]
    rw [← hs1, schedule_some ho (hselection.trans hchoice)]
    exact ⟨fun hbusy => schedule_busy _ hbusy, fun _ => rfl⟩

end Sys2Proof.Machine
end

section
/-!
PROOFS. Request frames, the production of a DONE, and ABORT (05 R67 to R72, R84 to R89), and what power-on leaves (05
R90).
-/

namespace Sys2Proof.Machine

/-! ## DONE (05 R89) -/

theorem Engine.dropOp_eq (e : Engine) (tag : Tag) :
    e.dropOp tag = if e.op.map (·.tag) = some tag then { e with op := none } else e := by
  unfold Engine.dropOp
  cases ho : e.op with
  | none => simp
  | some op => simp

theorem Buffer.release_all (b : Buffer) (tag : Tag) : b.release tag (fun _ => true) =
    { b with pages := b.pages.map fun p => if p.use.owner? = some tag then { p with use := .free } else p } := by
  simp [Buffer.release]

/-- Settles O11: the five effects of R89 are the model's, in its order. -/
theorem doneProduced : Obligations.DoneProduced := by
  intro s tag report
  simp only [produceDone, Engine.dropOp_eq, Buffer.release_all, Queue.complete, Queue.remove, produceDoneCall_queue]
  rfl

/-! ## Request frames (05 R69 to R72) -/

theorem exec_requestFrame (tag : Tag) (req : Request) (s : State) :
    exec (requestFrame tag req) s = .next (takeRequest tag req s) := by
  cases req <;> rfl

/-- The acceptance of a frame that is not refused (05 R70). -/
theorem takeRequest_accepts {s : State} {tag : Tag} (h : s.accepts tag) (req : Request) :
    takeRequest tag req s = accept tag req s := by
  obtain ⟨hreset, hcredit, htag⟩ := h
  have hr : ¬ s.queue.refuses tag = true := by simp [Queue.refuses_iff, hcredit, htag]
  rw [takeRequest, if_neg (by simp [hreset]), if_neg hr]

theorem Queue.accept_withRecord (s : State) (tag : Tag) (req : Request) :
    s.setQueue (s.queue.accept tag req) = s.withRecord tag req .accepted := rfl

/-- A new record changes its state and no older one does, since its tag is new. -/
theorem withRecord_setReqState (s : State) (tag : Tag) (req : Request) (st st' : ReqState)
    (h : tag ∉ s.queue.records.map (·.tag)) :
    (s.withRecord tag req st).setReqState tag st' = s.withRecord tag req st' := by
  have older : (s.queue.records.map fun r => if r.tag == tag then { r with state := st' } else r) =
      s.queue.records := by
    refine (List.map_congr_left fun r hr => ?_).trans (List.map_id _)
    have : r.tag ≠ tag := fun e => h (e ▸ List.mem_map_of_mem hr)
    simp [this]
  simp only [State.withRecord, State.setReqState, Queue.update, State.setQueue, List.map_append, older]
  simp

/-- Settles O8: the refusal, the failed check, and the two ways out of ACCEPTED. -/
theorem requestFrameTaken : Obligations.RequestFrameTaken := by
  intro s tag req
  rw [exec_requestFrame]
  refine ⟨fun hreset hrefused => ?_, fun haccepts => ?_⟩
  · rw [takeRequest, if_neg (by simp [hreset]), if_pos ((Queue.refuses_iff ..).2 hrefused), refuseRequest]
  · rw [takeRequest_accepts haccepts, accept, Queue.accept_withRecord]
    refine ⟨fun status hc => ?_, fun hc hreq => ?_, fun lba count flags hc hreq => ?_⟩
    · rw [hc]
      rfl
    · have hp : req.needsPages = false := by
        cases req with
        | read lba count flags => exact absurd rfl (hreq lba count flags).1
        | write lba count flags => exact absurd rfl (hreq lba count flags).2
        | verify | format | reassign | recal | spin => rfl
      simp [hc, enterWaiting, hp, withRecord_setReqState _ _ _ _ _ haccepts.2.2]
    · have hp : req.needsPages = true := by obtain rfl | rfl := hreq <;> rfl
      simp only [hc, enterWaiting, hp, if_true, withRecord_setReqState _ _ _ _ _ haccepts.2.2]
      rfl

/-! ## The acceptance checks (05 R71) -/

theorem countOk_eq (count : Byte) : (!countOk count) = decide (count.toNat < 1 ∨ 16 < count.toNat) := by
  unfold countOk
  rw [← decide_not, decide_eq_decide]
  omega

theorem onlyVerify_eq (flags : Byte) : (!onlyVerify flags) = decide (flags.toNat ≠ 0 ∧ flags.toNat ≠ 1) := by
  revert flags
  decide

/-- A check written by what it lets pass. -/
theorem checkPasses_eq (passes : Prop) [Decidable passes] (status : Status) :
    (if passes then none else some status) = if decide (¬ passes) then some status else none := by
  by_cases h : passes <;> simp [h]

/-- The first check that fails decides. -/
theorem firstFailed_cons (fails : Bool) (status : Status) (checks : List (Bool × Status)) :
    ((fails, status) :: checks).findSome? (fun c => if c.1 then some c.2 else none) =
      if fails then some status else checks.findSome? fun c => if c.1 then some c.2 else none := by
  cases fails <;> rfl

/-- Settles O9: each kind's checks are its rows of the table, read from the top. -/
theorem acceptanceChecksInOrder : Obligations.AcceptanceChecksInOrder := by
  intro t req
  have unconfigured : (!t.configured) = t.active.isNone := by simp [Tables.configured]
  have cylinders : t.param (·.cylinders) 0 = (t.active.map (·.device.cylinders)).getD 0 := by
    cases h : t.active <;> simp [Tables.param, Tables.device?, h]
  cases req with
  | read lba count flags | verify lba count flags =>
    simp only [acceptanceCheck, firstFailed_cons, unconfigured, countOk_eq, decide_eq_true_eq, BitVec.toNat_eq, ne_eq]
    rfl
  | write lba count flags =>
    simp only [acceptanceCheck, firstFailed_cons, unconfigured, countOk_eq, onlyVerify_eq, decide_eq_true_eq]
    rfl
  | format cylinder head flags =>
    simp only [acceptanceCheck, firstFailed_cons, unconfigured, onlyVerify_eq, checkPasses_eq, cylinders,
      Nat.lt_succ_iff]
    rfl
  | reassign lba =>
    simp only [acceptanceCheck, firstFailed_cons, unconfigured, checkPasses_eq]
    rfl
  | recal => rfl
  | spin mode =>
    simp only [acceptanceCheck, firstFailed_cons, checkPasses_eq, BitVec.toNat_eq, not_or]
    rfl

/-! ## ABORT (05 R84 to R86) -/

/-- A management frame that is routed goes to its owner (09 R158). -/
theorem manage_routed {s : State} (h : s.routes) (act : State → State) : manage act s = act s := by
  obtain ⟨hreset, hreplies⟩ := h
  rw [manage, if_neg (by simp [hreset])]
  exact if_pos hreplies

theorem exec_abort {s : State} (h : s.routes) (seq : Byte) (tag : Tag) :
    exec (.abort seq tag) s = .next (abort seq tag s) :=
  congrArg Host.Outcome.next (manage_routed h (abort seq tag))

/-- ABORT of a request that waits: it leaves the buffer manager, and its DONE follows. -/
theorem abort_waiting {s : State} {tag : Tag} {r : Record} (hr : s.queue.find tag = some r) (hw : r.state ≠ .active)
    (seq : Byte) : abort seq tag s =
      schedule (produceDone tag ⟨.aborted, 0, 0, none, none⟩ (removeWaiting r (produceReply seq .ok s))) := by
  cases hs : r.state with
  | active => exact absurd hs hw
  | accepted | awaitPages | awaitData | ready => simp only [abort, hr, hs, endedEarly]

theorem markAbort_some {s : State} {op : Op} (h : s.engine.op = some op) :
    markAbort s = s.setEngine { s.engine with op := some { op with abortPending := true } } := by
  rw [markAbort, h]
  rfl

/-- Settles O30: by the state of the record the tag names. -/
theorem abortEnds : Obligations.AbortEnds := by
  intro s seq tag hroutes
  rw [exec_abort hroutes]
  refine ⟨fun hnone => by rw [abort, hnone], fun r hr => ?_⟩
  have htag : r.tag = tag := Queue.find_tag hr
  refine ⟨fun op hs hop => ?_, fun hs => ?_, fun hs => ?_, fun hs => ?_⟩
  · have hop' : (produceReply seq .ok s).engine.op = some op := by rw [produceReply_engine, hop]
    simp only [abort, hr, hs, markAbort_some hop', produceReply_engine]
  all_goals rw [abort_waiting hr (by simp [hs]), removeWaiting, hs, htag]
  · rfl
  · rfl

/-! ## Power-on (05 R90) -/

/-- Settles O2: `State.reset`, block by block. -/
theorem resetStateHolds : Obligations.ResetStateHolds := by
  have pages : ∀ p ∈ State.reset.buffer.pages, p.use = .free := fun p hp => by rw [List.eq_of_mem_replicate hp]; rfl
  have zeros : State.reset.counters = List.replicate 12 0 := rfl
  have counters : ∀ c ∈ State.reset.counters, c = 0 := fun c hc => List.eq_of_mem_replicate (zeros ▸ hc)
  exact ⟨rfl, rfl, rfl, rfl, rfl, pages, rfl, rfl, rfl, rfl, rfl, rfl, rfl, fun _ => rfl, rfl, rfl, rfl, rfl, rfl, rfl,
    rfl, rfl, rfl, rfl, rfl, rfl, rfl, rfl, rfl, rfl, rfl, counters, rfl⟩

/-- Settles O3: no tag is in use and every credit is the host's; no event is queued; no set is active, no REPLY waits,
and the pages are 32. -/
theorem soundAtReset : Obligations.SoundAtReset :=
  ⟨(balanced_iff _).2 (reset_sound 0 0 0 0), ⟨.nil, by decide, rfl⟩, ⟨by decide, by decide, rfl⟩⟩

end Sys2Proof.Machine
end

section
/-!
PROOFS. The media engine begins a request (06 R91 to R97, R110, R113 to R115): the access of a READ, VERIFY, WRITE or
FORMAT, the requests that write protection bars, and what RECAL, SPIN UP and SPIN DOWN ask of positioner and spindle.
-/

namespace Sys2Proof.Machine

/-! ## Requests that write protection bars (06 R108, R110; 02 R36) -/

/-- A REASSIGN into a WRITE_LOCK zone, or with the write-protect sense active, ends before its chain begins. -/
theorem beginOp_reassign_barred (s : State) (tag : Tag) (lba : Lba)
    (hb : (s.tables.placement lba.toNat).writeLock = true ∨ s.pins.wprot = true) :
    beginOp tag (.reassign lba) s = produceDone tag ⟨.writeProtected, 0, 0, none, none⟩
      (s.setOp (freshOp tag (.reassign lba) .write)) := by
  refine (if_pos (Bool.or_eq_true_iff.2 hb)).trans ?_
  exact endWith_done (reassignOp tag lba (s.tables.placement lba.toNat)) .writeProtected _ rfl

/-! ## The zone of a cylinder (02 R30) -/

theorem Tables.zoneAt_of_getElem? {t : Tables} {zone : Nat} {z : Zone} (hz : t.zones[zone]? = some z) :
    t.zoneAt zone = z := by
  rw [Tables.zoneAt, List.getD_eq_getElem?_getD, hz, Option.getD_some]

/-- The zone of a cylinder is the first whose range holds it. -/
theorem Tables.zoneOfCyl_first {t : Tables} {c zone : Nat} {z : Zone} (hz : t.zones[zone]? = some z)
    (hc : z.firstCyl ≤ c ∧ c ≤ z.lastCyl)
    (hfirst : ∀ j y, j < zone → t.zones[j]? = some y → ¬ (y.firstCyl ≤ c ∧ c ≤ y.lastCyl)) :
    t.zoneOfCyl c = some zone := by
  obtain ⟨hlen, rfl⟩ := List.getElem?_eq_some_iff.1 hz
  rw [Tables.zoneOfCyl, List.findIdx?_eq_some_iff_getElem]
  exact ⟨hlen, decide_eq_true hc, fun j hj => by simpa using hfirst j _ hj (List.getElem?_eq_getElem (by omega))⟩

/-! ## FORMAT (06 R110) -/

/-- The operation record of a FORMAT, its track found. -/
def formatOp (tag : Tag) (cylinder head flags : Byte) (zone : Nat) (z : Zone) : Op :=
  { freshOp tag (.format cylinder head flags) .trackWrite with
    target := ⟨cylinder.toNat, head.toNat, 0, zone, z.rpm⟩ }

section
variable (s : State) (tag : Tag) (cylinder head flags : Byte) (zone : Nat) (z : Zone)
  (hcyl : s.tables.zoneOfCyl cylinder.toNat = some zone) (hz : s.tables.zones[zone]? = some z)

include hcyl hz

theorem beginOp_format : beginOp tag (.format cylinder head flags) s =
    let taken := s.setOp (freshOp tag (.format cylinder head flags) .trackWrite)
    let op := formatOp tag cylinder head flags zone z
    if z.writeLock || s.pins.wprot then endWith op .writeProtected taken else openBoth op taken := by
  have ht : formatTarget s.tables cylinder head = ⟨cylinder.toNat, head.toNat, 0, zone, z.rpm⟩ := by
    rw [formatTarget, hcyl, Option.getD_some, Tables.zoneAt_of_getElem? hz]
  simp only [beginOp, beginFormat, State.setOp_tables, State.setOp_pins, ht, Tables.zoneAt_of_getElem? hz]
  rfl

theorem beginOp_format_barred (hb : z.writeLock = true ∨ s.pins.wprot = true) :
    beginOp tag (.format cylinder head flags) s = produceDone tag ⟨.writeProtected, 0, 0, none, none⟩
      (s.setOp (freshOp tag (.format cylinder head flags) .trackWrite)) := by
  rw [beginOp_format s tag cylinder head flags zone z hcyl hz]
  refine (if_pos (Bool.or_eq_true_iff.2 hb)).trans ?_
  exact endWith_done (formatOp tag cylinder head flags zone z) .writeProtected _ rfl

theorem beginOp_format_opens (hl : z.writeLock = false) (hw : s.pins.wprot = false) :
    Opens (s.setOp (freshOp tag (.format cylinder head flags) .trackWrite))
      (beginOp tag (.format cylinder head flags) s) (formatOp tag cylinder head flags zone z) := by
  rw [beginOp_format s tag cylinder head flags zone z hcyl hz]
  simp only [hl, hw, Bool.or_self, Bool.false_eq_true, if_false]
  exact openBoth_opens _ _

end

/-- Settles O17: a block request by its TRANSLATE, a REASSIGN by what bars it, a FORMAT by the zone of its cylinder. -/
theorem accessOpens : Obligations.AccessOpens := by
  intro s tag req taken barred
  refine ⟨fun lba count flags purpose hreq => ?block, fun lba p hreq hp hb => ?reassign,
    fun cylinder head flags zone z hreq => ?format⟩
  case block =>
    rcases hreq with ⟨rfl, rfl⟩ | ⟨rfl, rfl⟩ | ⟨rfl, rfl⟩
    · exact translateBlock_begins _ _ (.inl ⟨lba, count, flags, rfl⟩)
    · exact translateBlock_begins _ _ (.inr (.inl ⟨lba, count, flags, rfl⟩))
    · exact translateBlock_begins _ _ (.inr (.inr ⟨lba, count, flags, rfl⟩))
  case reassign =>
    subst hreq hp
    exact beginOp_reassign_barred s tag lba hb
  case format =>
    subst hreq
    intro holds hz hc hfirst
    have hcyl := Tables.zoneOfCyl_first hz hc hfirst
    exact ⟨beginOp_format_barred s tag cylinder head flags zone z hcyl hz,
      beginOp_format_opens s tag cylinder head flags zone z hcyl hz⟩

/-! ## RECAL (06 R115; 08 R144) -/

/-- The operation record of a RECAL under way. -/
def recalOp (tag : Tag) : Op := { freshOp tag .recal .write with stage := .recalibrate }

theorem beginOp_recal (s : State) (tag : Tag) :
    beginOp tag .recal s = (takeRecal (s.setOp (freshOp tag .recal .write))).setOp (recalOp tag) := rfl

/-! ## SPIN DOWN (06 R114; 07 R131) -/

/-- The operation record of a SPIN that waits for the spindle. -/
def spinOp (tag : Tag) (mode : Byte) : Op := { freshOp tag (.spin mode) .write with stage := .spinWait }

theorem requestStop_turning (s : State) (hrest : s.spindle.state ≠ .stopped) (hstop : s.spindle.state ≠ .stopping) :
    requestStop s = s.setSpindle (beginStop .request s.spindle) := by
  unfold requestStop Spindle.stopRequest
  cases h : s.spindle.state with
  | stopped => exact absurd h hrest
  | stopping => exact absurd h hstop
  | starting | locked | retargeting | lost => rfl

theorem requestStop_stopping (s : State) (h : s.spindle.state = .stopping) : requestStop s = s := by
  simp only [requestStop, Spindle.stopRequest, h]
  rfl

theorem beginOp_spinDown_waits (s : State) (tag : Tag) (h : s.spindle.state ≠ .stopped) :
    beginOp tag (.spin 2) s =
      (requestStop (s.setOp (freshOp tag (.spin 2) .write))).setOp (spinOp tag 2) := if_neg h

theorem beginOp_spinDown_stopped (s : State) (tag : Tag) (h : s.spindle.state = .stopped) :
    beginOp tag (.spin 2) s = produceDone tag ⟨.ok, 0, 0, none, none⟩ (s.setOp (freshOp tag (.spin 2) .write)) :=
  (if_pos h).trans (endWith_done (spinOp tag 2) .ok _ rfl)

/-! ## SPIN UP (06 R113; 07 R130) -/

theorem Tables.param_active {t : Tables} {a : ActiveSet} (ha : t.active = some a) (f : Device → Nat) (x : Nat) :
    t.param f x = f a.device := by
  simp only [Tables.param, Tables.device?, ha, Option.map_some, Option.getD_some]

theorem spinTarget_zone {s : State} {a : ActiveSet} {zone : Nat} {z : Zone} (ha : s.tables.active = some a)
    (hz : a.zones[zone]? = some z) (h : spinZone s.tables s.pos.state = zone) : spinTarget s = ⟨z.rpm, zone⟩ := by
  have hz' : s.tables.zones[zone]? = some z := by rw [Tables.zones, ha]; exact hz
  simp only [spinTarget, Tables.configured, ha, Option.isSome_some, if_true, h, Tables.zoneAt_of_getElem? hz']

/-- The speed target of a SPIN UP is the one `SpinUpAsks` names. -/
theorem spinTarget_eq {s : State} {rpm zone : Nat} (h : SpinUpAsks s rpm zone) : spinTarget s = ⟨rpm, zone⟩ := by
  cases h with
  | unconfigured ha => simp [spinTarget, Tables.configured, ha]
  | unknown a z ha hz hk => exact spinTarget_zone ha hz (by simp [spinZone, hk])
  | within a zone z ha hz hk hlt hc =>
    exact spinTarget_zone ha hz (by simp [spinZone, hk, Tables.param_active ha, hlt, hc])
  | beyond a zone z ha hz hk hle hlast =>
    have hzones : s.tables.zones = a.zones := by rw [Tables.zones, ha]; rfl
    refine spinTarget_zone ha hz ?_
    simp [spinZone, hk, Tables.param_active ha, Nat.not_lt.2 hle, hzones, ← hlast]

/-- The operation record of a SPIN UP that waits for a speed. -/
def spinUpOp (tag : Tag) (rpm zone : Nat) : Op := { spinOp tag 1 with target := ⟨0, 0, 0, zone, rpm⟩ }

/-- A SPIN UP waits while its SPEED is open, and ends at once where the spindle is LOCKED already. -/
theorem beginOp_spinUp {s : State} {rpm zone : Nat} {spindle : Spindle} {speedOpen : Bool} (tag : Tag)
    (ht : SpinUpAsks s rpm zone) (hs : SpeedAsked s.tables rpm zone s.spindle spindle speedOpen) :
    beginOp tag (.spin 1) s =
      let asked := (s.setOp (freshOp tag (.spin 1) .write)).setSpindle spindle
      let op := spinUpOp tag rpm zone
      if speedOpen then asked.setOp op else endWith op .ok asked := by
  have htarget : spinTarget (s.setOp (freshOp tag (.spin 1) .write)) = ⟨rpm, zone⟩ :=
    (spinTarget_eq ht : spinTarget s = _)
  have hask := askSpeed_eq (s.setOp (freshOp tag (.spin 1) .write)) rpm zone spindle speedOpen hs
  change beginSpinUp _ (s.setOp (freshOp tag (.spin 1) .write)) = _
  simp only [beginSpinUp, htarget, hask]
  rfl

/-- Settles O18: RECAL by the state of the positioner, SPIN DOWN by that of the spindle, SPIN UP by whether its SPEED
stays open. -/
theorem spinAndRecalBegin : Obligations.SpinAndRecalBegin := by
  intro s tag recal works isRecal isSpin
  refine ⟨fun hu => ⟨recalOp tag, ?_, rfl, rfl, rfl⟩, fun c hc => ⟨recalOp tag, ?_, rfl, rfl, rfl⟩,
    fun hu hi => ⟨recalOp tag, ?_, rfl, rfl, rfl⟩, fun hrest hstop => ⟨spinOp tag 2, ?_, rfl, rfl, rfl⟩,
    fun hstop => ⟨spinOp tag 2, ?_, rfl, rfl, rfl⟩,
    fun hrest => ⟨_, beginOp_spinDown_stopped s tag hrest, rfl⟩, fun rpm zone spindle speedOpen ht hs => ?spinUp⟩
  · rw [beginOp_recal, takeRecal_unknown _ (by exact hu)]
    rfl
  · rw [beginOp_recal, takeRecal_idle _ c (by exact hc)]
    rfl
  · rw [beginOp_recal, takeRecal_moving _ (by exact hu) (by exact hi)]
    rfl
  · rw [beginOp_spinDown_waits s tag hrest, requestStop_turning _ (by exact hrest) (by exact hstop)]
    rfl
  · rw [beginOp_spinDown_waits s tag (by simp [hstop]), requestStop_stopping _ (by exact hstop)]
    rfl
  case spinUp =>
    have he := beginOp_spinUp tag ht hs
    refine ⟨fun ho => ?_, fun ho => ?_⟩ <;> subst ho
    · exact ⟨spinUpOp tag rpm zone, he, ⟨rfl, rfl, rfl⟩, rfl⟩
    · exact ⟨freshOp tag (.spin 1) .write, rfl,
        he.trans (endWith_done (spinUpOp tag rpm zone) .ok _ rfl)⟩

end Sys2Proof.Machine
end

section
/-!
PROOFS. The hunt timeout (06 R98) and the verification of a FORMAT (06 R112): a pass that ends in HUNT, and the sectors
of a track read one after the other.
-/

namespace Sys2Proof.Machine

/-! ## The hunt timeout (06 R98) -/

section
variable (s : State) (op : Op) (ho : s.engine.op = some op) (hd : op.stage ≠ .drain)
include ho hd

theorem exec_huntTimeout_early (hrevs : op.huntRevs < s.tables.huntRevs) : exec .huntTimeout s = .next s := by
  simp only [exec, execHuntTimeout, Engine.working_some _ op ho hd, if_neg (Nat.not_le.2 hrevs)]

theorem exec_huntTimeout_expires (hrevs : s.tables.huntRevs ≤ op.huntRevs) :
    exec .huntTimeout s = .next (schedule (huntExpires op s)) := by
  simp only [exec, execHuntTimeout, Engine.working_some _ op ho hd, if_pos hrevs, afterEngine_busy s _ op ho]

end

/-- In HUNT the pass fails. -/
theorem huntExpires_hunt (op : Op) (s : State) (target : SectorId) (action : Action)
    (hm : s.codec.mode = .hunt target action) : huntExpires op s = passFailed .huntTimeout op s.codecIdle := by
  simp only [huntExpires, hm, codecStop_hunt s target action hm]

/-- Once the target has matched, STOP is held until the field has ended. -/
theorem huntExpires_matched (op : Op) (s : State) (target : SectorId)
    (hm : (∃ action, s.codec.mode = .dataRead target action) ∨
      ∃ ref phase, s.codec.mode = .dataWrite target ref phase) :
    huntExpires op s = s.setCodec { s.codec with stopHeld := true } := by
  rcases hm with ⟨action, hm⟩ | ⟨ref, phase, hm⟩ <;> simp only [huntExpires, codecStop, hm]

/-! ## Another pass, or the end of the request (06 R101, R102, R104) -/

/-- The next pass of an operation whose pass failed. -/
def Op.repeated (op : Op) (why : PassFailure) : Op :=
  { op with
    pass := op.pass + 1, retriesUsed := min 255 (op.retriesUsed + 1), failures := op.failures.after why }

/-- After a hunt timeout every failure of the block is one unless another kind was seen before (06 R102). -/
theorem Failures.after_huntTimeout_huntOnly (f : Failures) : f.after .huntTimeout = .huntOnly ↔ f ≠ .mixed := by
  cases f <;> simp [Failures.after]

section
variable (why : PassFailure) (op : Op) (s : State)

theorem readFailed_repeats (hc : s.codec.mode = .idle) (hp : op.purpose ≠ .trackWrite)
    (hn : op.pass < 1 + s.tables.readRetries) : readFailed why op s = passBegun (op.repeated why)
      (s.setEngine { s.engine with readRetries := bump s.engine.readRetries }) :=
  (if_pos hn).trans (armPass_eq _ _ hp hc)

theorem readFailed_spent (hn : 1 + s.tables.readRetries ≤ op.pass) :
    readFailed why op s = ended { op with failures := op.failures.after why }
      ⟨if op.failures.after why = .huntOnly then .sectorNotFound else .dataError, op.blocksDone, op.retriesUsed,
        some (op.req.firstLba + op.cursor), none⟩ s := by
  simp only [readFailed, if_neg (Nat.not_lt.2 hn), endWith_eq]
  split <;> rfl

theorem writeFailed_repeats (hc : s.codec.mode = .idle) (hn : op.pass < 1 + s.tables.writeRetries)
    (hw : s.pins.wprot = false) : writeFailed why op s = passBegun { op.repeated why with purpose := .write }
      (s.setEngine { s.engine with writeRetries := bump s.engine.writeRetries }) := by
  simp only [writeFailed, if_pos hn, hw, Bool.false_eq_true, if_false]
  exact armPass_eq _ _ (by simp [Op.nextPass]) hc

theorem writeFailed_barred (hq : op.req.isRead = false) (hn : op.pass < 1 + s.tables.writeRetries)
    (hw : s.pins.wprot = true) : writeFailed why op s =
      produceDone op.tag ⟨.writeProtected, op.blocksDone, op.retriesUsed, none, none⟩ s := by
  simp only [writeFailed, if_pos hn, hw, if_true]
  exact endWith_done (op.writeLost why) .writeProtected s hq

end

/-- Settles O45: a hunt that expires fails its pass, and a field that has begun is waited for. -/
theorem huntTimeoutFailsPass : Obligations.HuntTimeoutFailsPass := by
  intro s op target action ho hd reads writes idled failures again
  refine ⟨exec_huntTimeout_early s op ho hd, fun hrevs => ?_⟩
  rw [exec_huntTimeout_expires s op ho hd hrevs]
  refine ⟨fun hm => ?hunt, fun hm => ?matched⟩
  case matched =>
    have hmatched := huntExpires_matched op s target (hm.imp_left fun h => ⟨action, h⟩)
    exact next_schedule_busy hmatched (show s.engine.op.isSome = true by simp [ho])
  case hunt =>
    rw [huntExpires_hunt op s target action hm, show s.codecIdle = idled from rfl]
    have read : reads → op.purpose ≠ .trackWrite ∧
        passFailed .huntTimeout op idled = readFailed .huntTimeout op idled := by
      rintro (⟨hp, -⟩ | ⟨hp, -⟩) <;> simp [passFailed, hp]
    have write : writes → op.req.isRead = false ∧
        passFailed .huntTimeout op idled = writeFailed .huntTimeout op idled := by
      rintro ⟨hp, hreq⟩
      refine ⟨?_, by rcases hp with hp | hp <;> simp only [passFailed, hp]⟩
      rcases hreq with ⟨_, _, _, hq⟩ | ⟨_, hq⟩ <;> simp [hq, Request.isRead]
    refine ⟨fun hr hn => ?_, fun hr hn => ?_, fun hw hn => ⟨fun hpin => ?_, fun hpin => ?_⟩⟩
    · obtain ⟨hp, hfail⟩ := read hr
      exact next_schedule_busy (hfail.trans (readFailed_repeats .huntTimeout op idled rfl hp hn)) (passBegun_busy _ _)
    · rw [(read hr).2, readFailed_spent .huntTimeout op idled hn]
      simp only [Failures.after_huntTimeout_huntOnly, ne_eq, ite_not]
      rfl
    · obtain ⟨-, hfail⟩ := write hw
      exact next_schedule_busy (hfail.trans (writeFailed_repeats .huntTimeout op idled rfl hn hpin))
        (passBegun_busy _ _)
    · obtain ⟨hq, hfail⟩ := write hw
      rw [hfail, writeFailed_barred .huntTimeout op idled hq hn hpin]

/-! ## The verification of a FORMAT (06 R112) -/

section
variable (k : Nat) (op : Op) (s : State)

theorem nextFormatSector_arms (hc : s.codec.mode = .idle) (hk : k + 1 < (s.tables.zoneAt op.target.zone).spt) :
    nextFormatSector k op s = passBegun { op with purpose := .formatVerify (k + 1) } s :=
  (if_pos hk).trans (armPass_eq _ s (by simp) hc)

theorem nextFormatSector_ends (hq : op.req.isRead = false) (hk : (s.tables.zoneAt op.target.zone).spt ≤ k + 1) :
    nextFormatSector k op s = produceDone op.tag
      ⟨if op.failing = 0 then .ok else .formatErrors, op.blocksDone, op.retriesUsed, none, some op.failing⟩ s := by
  rw [nextFormatSector, if_neg (Nat.not_lt.2 hk), finish_eq, ended_done _ _ _ hq]
  split <;> rfl

end

/-- The operation record of a FORMAT once sector `k` has been read: a sector that failed has joined the set. -/
def Op.sectorRead (op : Op) (k : Nat) (bad : Bool) : Op :=
  { op with failing := if bad = true then op.failing ||| (1#32 <<< k) else op.failing }

theorem passFailed_formatVerify (why : PassFailure) (op : Op) (s : State) (k : Nat)
    (hp : op.purpose = .formatVerify k) : passFailed why op s = nextFormatSector k (op.sectorRead k true) s := by
  simp only [passFailed, hp]
  rfl

theorem passGood_formatVerify (op : Op) (s : State) (k : Nat) (hp : op.purpose = .formatVerify k) :
    passGood op s = nextFormatSector k (op.sectorRead k false) s := by
  simp only [passGood, hp]
  rfl

/-- The command `i` ends the reading of a sector for DISCARD in `s`, `bad` where not well. `faults` is the decode-fault
counter after it. -/
inductive SectorReadEnds (s : State) (op : Op) (i : Instr) : Bool → Counter → Prop where
  | good (target : SectorId) (bits : List Bool) (data : List Byte) : s.codec.mode = .dataRead target .discard →
      i = .dataReadEnd bits → readData s.tables.inverse s.codec.reader bits = .whole data true →
      SectorReadEnds s op i false s.codec.decodeFaults
  | fails (target : SectorId) (data : List Byte) (faults : Counter) : s.codec.mode = .dataRead target .discard →
      FieldFails s .discard i data faults → SectorReadEnds s op i true faults
  | notFound (target : SectorId) : s.codec.mode = .hunt target .discard → i = .huntTimeout →
      s.tables.huntRevs ≤ op.huntRevs → SectorReadEnds s op i true s.codec.decodeFaults

/-- However the reading of a sector ends, the FORMAT goes on to its next. -/
theorem exec_sectorRead {s : State} {op : Op} {i : Instr} {bad : Bool} {faults : Counter} {k : Nat}
    (ho : s.engine.op = some op) (hd : op.stage ≠ .drain) (hp : op.purpose = .formatVerify k)
    (h : SectorReadEnds s op i bad faults) :
    exec i s = .next (schedule (nextFormatSector k (op.sectorRead k bad) (s.setCodec { s.codec with
      mode := .idle, stopHeld := false, reader := .clear, wdata := [], decodeFaults := faults }))) := by
  cases h with
  | good target bits data hm hi hr =>
    subst hi
    rw [exec_dataReadEnd_reading s bits op target _ hm ho, hr, dataEnd_good s op _ data ho hd (by simp),
      passGood_formatVerify op _ k hp]
    rfl
  | fails target data _ hm hf =>
    rw [exec_fieldFails s i op target _ data _ hm ho hd hf, passFailed_formatVerify _ op _ k hp]
    rfl
  | notFound target hm hi hrevs =>
    subst hi
    rw [exec_huntTimeout_expires s op ho hd hrevs, huntExpires_hunt op s target _ hm,
      passFailed_formatVerify _ op _ k hp]
    rfl

/-- Settles O51: by how the reading of sector `k` ended, and whether it was the last of its track. -/
theorem formatVerifies : Obligations.FormatVerifies := by
  intro s bits op target k i bad faults read ho hst hp hreq hread failing idled
  have hd : op.stage ≠ .drain := by simp [hst]
  have hq : op.req.isRead = false := by
    obtain ⟨_, _, _, hq⟩ := hreq
    simp [hq, Request.isRead]
  have hends : SectorReadEnds s op i bad faults := by
    rcases hread with ⟨hm, hi, hr⟩ | ⟨hm, rfl, hrevs, rfl, rfl⟩
    · rcases hi with ⟨rfl, rfl⟩ | ⟨rfl, hf, rfl⟩
      · rcases hr with ⟨⟨data, hr⟩, rfl⟩ | ⟨⟨data, hr⟩, rfl, rfl⟩ | ⟨hr, rfl, rfl⟩
        · cases bad with
          | false => exact .good target bits data hm rfl hr
          | true => exact .fails target data _ hm (.badCheck bits data hr)
        · exact .fails target data _ hm (.decodeFault bits data hr)
        · exact .fails target [] _ hm (.noMark bits hr)
      · obtain ⟨rfl, rfl⟩ : bad = true ∧ faults = bump s.codec.decodeFaults := by simpa using hr
        exact .fails target [] _ hm (.markTimeout hf)
    · exact .notFound target hm rfl hrevs
  rw [exec_sectorRead ho hd hp hends]
  refine ⟨fun hk => next_schedule_busy ?_ rfl, fun hk => ?_⟩
  · refine (nextFormatSector_arms k (op.sectorRead k bad) (s.setCodec idled) rfl hk).trans ?_
    simp only [passBegun, armedAction, ← hst]
    rfl
  · rw [nextFormatSector_ends k (op.sectorRead k bad) (s.setCodec idled) hq hk]
    rfl

end Sys2Proof.Machine
end

section
/-!
PROOFS. The spindle controller (07 R121 to R133): the TACH pulse, the entries to LOCKED and LOST, and the timers, each
with what the engine and the codec do at its report.
-/

namespace Sys2Proof.Machine

/-! ## TACH pulses (07 R121) -/

/-- Settles O39: away from a track write the codec leaves the pulse to the spindle controller. -/
theorem tachPulseFrames : Obligations.TachPulseFrames :=
  fun s ns h => execTachPulse_goesOn ns s s (codecPulse_noTrack ns s h)

/-! ## Entries to LOCKED and LOST (07 R125 to R128, R132) -/

theorem becomeLocked_told (s : State) : LockTold (lockSpindle s) (becomeLocked s) := lockedReport_told _

theorem becomeLost_told (detail : BitVec 24) (s : State) : LossTold (loseSpindle detail s) (becomeLost detail s) :=
  lockLost_told _

/-- The loss of lock makes no selection: it ends no operation. -/
theorem afterEngine_becomeLost (detail : BitVec 24) (s : State) :
    afterEngine s (becomeLost detail s) = becomeLost detail s := by
  cases ho : s.engine.op with
  | none => exact afterEngine_idle s _ ho
  | some op =>
    refine afterEngine_same s _ ?_
    rw [ho]
    exact lockLost_busy (loseSpindle detail s) op (by simpa using ho)

theorem exec_enterLocked {s : State} (h : s.spindle.state.seeksLock = true) :
    exec .enterLocked s = .next (if s.engine.op = none then becomeLocked s else schedule (becomeLocked s)) := by
  have he : exec .enterLocked s = .next (afterEngine s (becomeLocked s)) := if_pos h
  rw [he]
  cases ho : s.engine.op with
  | none => rw [afterEngine_idle s _ ho, if_pos rfl]
  | some op => rw [afterEngine_busy s _ op ho, if_neg nofun]

theorem exec_enterLost {s : State} (h : s.spindle.state = .locked) :
    exec .enterLost s = .next (becomeLost (lostDetail (deviation s.spindle.lastPeriod s.spindle.rpm)) s) := by
  rw [← afterEngine_becomeLost]
  exact if_pos h

theorem exec_stallTimeout {s : State} (h : s.spindle.state = .locked) :
    exec .stallTimeout s = .next (becomeLost 127 s) := by
  rw [← afterEngine_becomeLost]
  exact if_pos h

/-- Settles O40: the entry to LOCKED by its report and the selection after it, the entry to LOST by ENTER_LOST and by a
stall. -/
theorem lockGainedAndLost : Obligations.LockGainedAndLost := by
  intro s locked lost measured
  refine ⟨fun hstate => ?gained, fun i detail hi hlocked => ?lost⟩
  case gained =>
    have hseeks : s.spindle.state.seeksLock = true := by
      rcases hstate with h | h | h <;> rw [h] <;> rfl
    exact ⟨becomeLocked s, becomeLocked_told s, exec_enterLocked hseeks⟩
  case lost =>
    refine ⟨becomeLost detail s, becomeLost_told detail s, ?_⟩
    rcases hi with ⟨rfl, rfl⟩ | ⟨rfl, rfl⟩
    · exact exec_stallTimeout hlocked
    · exact exec_enterLost hlocked

/-! ## A report that ends the operation that waits for it (06 R95, R107, R113, R114) -/

/-- The engine ends, with a status, the operation it works on if that waits for the report. -/
def endWaiting (waits : Op → Bool) (status : Status) (s : State) : State :=
  match s.engine.working with
  | none => s
  | some op => if waits op then endWith op status s else s

theorem timeoutReport_eq (s : State) : timeoutReport s = endWaiting Op.awaitsSpeed .spinFault s := rfl

theorem stoppedReport_eq (s : State) : stoppedReport s = endWaiting Op.awaitsStop .ok s := rfl

section
variable {waits : Op → Bool} {status : Status} {s t : State} {op : Op}

theorem endWaiting_waits (ho : s.engine.op = some op) (hd : op.stage ≠ .drain) (hw : waits op = true)
    (hstatus : status.namesLba = false) :
    endWaiting waits status s = ended op ⟨status, op.blocksDone, op.retriesUsed, none, none⟩ s := by
  simp only [endWaiting, Engine.working_some _ op ho hd, if_pos hw, endWith_eq, hstatus, Bool.false_eq_true, if_false]

theorem endWaiting_else (ho : s.engine.op = some op) (hw : ¬ (op.stage ≠ .drain ∧ waits op = true)) :
    endWaiting waits status s = s := by
  by_cases hd : op.stage = .drain
  · simp only [endWaiting, Engine.working_drain _ op ho hd]
  · simp only [endWaiting, Engine.working_some _ op ho hd, if_neg fun h => hw ⟨hd, h⟩]

/-- A command that changes no operation before such a report ends, with a selection, the operation that waits for it,
and leaves every other. -/
theorem afterEngine_endWaiting (he : t.engine = s.engine) (hstatus : status.namesLba = false) :
    (s.engine.op = none → afterEngine s (endWaiting waits status t) = t) ∧
    ∀ op, s.engine.op = some op →
      (op.stage ≠ .drain ∧ waits op = true → afterEngine s (endWaiting waits status t) =
        schedule (ended op ⟨status, op.blocksDone, op.retriesUsed, none, none⟩ t)) ∧
      (¬ (op.stage ≠ .drain ∧ waits op = true) → afterEngine s (endWaiting waits status t) = t) := by
  rw [← he]
  refine ⟨fun ho => ?_, fun op ho => ⟨fun ⟨hd, hw⟩ => ?_, fun hw => ?_⟩⟩
  · rw [afterEngine_idle s _ (he ▸ ho)]
    simp only [endWaiting, Engine.working, ho]
  · rw [endWaiting_waits ho hd hw hstatus, afterEngine_busy s _ op (he ▸ ho)]
  · rw [endWaiting_else ho hw, afterEngine_same s t (by rw [he])]

end

theorem Op.awaitsSpeed_iff (op : Op) : op.awaitsSpeed = true ↔ op.stage = .spinWait ∧ op.req = .spin 1 ∨
    (∀ mode, op.req ≠ .spin mode) ∧
      (op.stage = .positionSpeed ∧ op.speedOpen = true ∨ op.awaitingRelock = true) := by
  unfold Op.awaitsSpeed
  cases op.req with
  | spin mode => simp
  | read | write | verify | format | reassign | recal => simp

theorem Op.awaitsStop_iff (op : Op) : op.awaitsStop = true ↔
    op.stage = .spinWait ∧ ∃ mode, op.req = .spin mode ∧ mode ≠ 1 := by
  unfold Op.awaitsStop
  cases op.req with
  | spin mode => simp
  | read | write | verify | format | reassign | recal => simp

/-- An operation that waits for the spindle to stop is not in DRAIN. -/
theorem Op.awaitsStop_works (op : Op) : op.stage ≠ .drain ∧ op.awaitsStop = true ↔
    op.stage = .spinWait ∧ ∃ mode, op.req = .spin mode ∧ mode ≠ 1 := by
  rw [Op.awaitsStop_iff]
  refine and_iff_right_of_imp fun ⟨hs, _⟩ => ?_
  rw [hs]
  exact nofun

/-! ## The spindle's timers (07 R125, R127 to R129, R133) -/

theorem exec_spinupTimeout {s : State} (hstate : s.spindle.state = .starting)
    (htimer : s.spindle.spinupTimer.isSome = true) :
    exec .spinupTimeout s = .next (afterEngine s (timeoutReport (faultSpindle 1 s))) :=
  if_pos (by simp [spinupRuns, hstate, htimer])

theorem exec_retargetTimeout {s : State} (hstate : s.spindle.state = .retargeting ∨ s.spindle.state = .lost)
    (htimer : s.spindle.retargetTimer.isSome = true) :
    exec .retargetTimeout s = .next (afterEngine s (timeoutReport (faultSpindle 2 s))) :=
  if_pos (by simp [retargetRuns, hstate, htimer])

theorem exec_silenceTimeout {s : State} (hstate : s.spindle.state = .stopping)
    (htimer : s.spindle.silenceTimer = true) :
    exec .silenceTimeout s = .next (afterEngine s (stoppedReport (restSpindle s))) :=
  if_pos (by simp [hstate, htimer])

theorem exec_idleTimeout {s : State} (hrecords : s.queue.records = []) (hstate : s.spindle.state = .locked)
    (hidle : s.tables.idleS ≠ 0) : exec .idleTimeout s = .next (s.setSpindle (beginStop .idle s.spindle)) :=
  if_pos (by simp [State.idleRunning, hrecords, hstate, hidle])

/-- SPIN_STOPPED carries the cause the stop began with (09 R164). -/
theorem restSpindle_cause {s : State} {cause : StopCause} (h : s.spindle.stopCause = some cause) :
    restSpindle s = raiseEvent .spinStopped (stoppedDetail (some cause))
      (s.setSpindle { s.spindle with state := .stopped, stopCause := none, silenceTimer := false }) := by
  rw [← h, restSpindle]

/-- Settles O41: a fault ends the operation that waits for the speed, silence the one that waits for the stop, and the
idle timer finds no request. -/
theorem spindleTimers : Obligations.SpindleTimers := by
  intro s down faulted rested waits awaitsStop done
  refine ⟨fun i detail hi => ?fault, fun cause hstate htimer hcause => ?silence,
    fun hrecords hstate hidle => exec_idleTimeout hrecords hstate hidle⟩
  case fault =>
    have hexec : exec i s = .next (afterEngine s (timeoutReport (faulted detail))) := by
      rcases hi with ⟨rfl, rfl, hstate, htimer⟩ | ⟨rfl, rfl, hstate, htimer⟩
      · exact exec_spinupTimeout hstate htimer
      · exact exec_retargetTimeout hstate htimer
    have hwaits (op : Op) : op.stage ≠ .drain ∧ op.awaitsSpeed = true ↔ waits op :=
      and_congr_right' op.awaitsSpeed_iff
    simp only [hexec, timeoutReport_eq, ← hwaits, Host.Outcome.next.injEq]
    exact afterEngine_endWaiting (faultSpindle_engine detail s) rfl
  case silence =>
    have hrest : restSpindle s = rested cause := (restSpindle_cause hcause).trans (by cases cause <;> rfl)
    have hexec : exec .silenceTimeout s = .next (afterEngine s (stoppedReport (rested cause))) := by
      rw [exec_silenceTimeout hstate htimer, hrest]
    have hwaits (op : Op) : op.stage ≠ .drain ∧ op.awaitsStop = true ↔ awaitsStop op := op.awaitsStop_works
    simp only [hexec, stoppedReport_eq, ← hwaits, Host.Outcome.next.injEq]
    exact afterEngine_endWaiting (hrest ▸ restSpindle_engine s) rfl

end Sys2Proof.Machine
end

section
/-!
PROOFS. The head positioner's two timers (08 R141 to R147): what an expiry does to the movement and to the request held
for its end, and what the engine does at the report it makes (06 R94, R99, R100, R115).
-/

namespace Sys2Proof.Machine

/-! ## Events leave the positioner alone, and it them -/

theorem arbitrate_setPos (s : State) (p : Positioner) : arbitrate (s.setPos p) = (arbitrate s).setPos p := by
  have hblock (n : Nat) (rest : List Nat) : startBlock n rest (s.setPos p) = (startBlock n rest s).setPos p := by
    simp only [startBlock, State.setPos_buffer]
    split <;> rfl
  have hevent : startEvent (s.setPos p) = (startEvent s).setPos p := by
    simp only [startEvent, State.setPos_events]
    split <;> rfl
  have hcall (f : DoneCall) (rest : List DoneCall) :
      startDoneCall f rest (s.setPos p) = (startDoneCall f rest s).setPos p := by
    cases f <;> rfl
  have hheld : (s.setPos p).resetHeld = s.resetHeld := rfl
  simp only [arbitrate, hheld, State.setPos_arb, hblock, hevent, hcall]
  split
  · rfl
  · split <;> rfl

theorem raiseEvent_setPos (k : EventKind) (detail : BitVec 24) (s : State) (p : Positioner) :
    raiseEvent k detail (s.setPos p) = (raiseEvent k detail s).setPos p := by
  have hoffer (u : State) : offerEvent (u.setPos p) = (offerEvent u).setPos p := by
    simp only [offerEvent, State.setPos_events]
    split
    · exact arbitrate_setPos (u.setEvents _) p
    · rfl
  by_cases h : s.events.enabled k = true
  · exact (if_pos h).trans ((hoffer (s.setEvents _)).trans (congrArg (State.setPos · p) (if_pos h).symm))
  · exact (if_neg h).trans (congrArg (State.setPos · p) (if_neg h).symm)

/-! ## The end of a movement (08 R138, R141, R143, R144, R146, R147) -/

/-- A movement has ended: the phases are released, no timer runs and no request is held. -/
def State.atRest (p : PosState) (s : State) : State :=
  s.setPos { s.pos with state := p, energised := false, stepTimer := none, settleTimer := none, held := none }

/-- A movement has failed, with its detail in POSITION_FAULT. -/
def State.movementFailed (detail : Nat) (s : State) : State :=
  raiseEvent .positionFault (BitVec.ofNat 24 detail) (s.atRest .unknown)

/-- The positioner of a recalibration that begins at the end of a movement. -/
def State.recalibratingFrom (origin : Nat) (s : State) : Positioner :=
  { s.pos with
    state := .recalibrating 0 origin s.tables.recalLimit, energised := true, held := none
    stepTimer := some s.tables.stepMs, settleTimer := none, recals := bump s.pos.recals }

/-- The request held for the end of a movement is taken, and its own answer stands for the movement's report where there
is one (log entry 19). -/
def takeHeld (report : PosReport) (held : Option HeldRequest) (s : State) : State × Option PosReport :=
  match held with
  | none => (s, some report)
  | some (.seek c) => takeSeek c s
  | some .recalibrate => (takeRecal s, none)

theorem finishMovement_eq (report : PosReport) (s : State) : finishMovement report s =
    takeHeld report s.pos.held (s.setPos { s.pos with held := none }) := by
  unfold finishMovement takeHeld
  rcases s.pos.held with _ | _ | _ <;> rfl

theorem finishMovement_arrived (report : PosReport) (p : PosState) (s : State) :
    finishMovement report (s.setPos (s.pos.endMovement p)) = takeHeld report s.pos.held (s.atRest p) :=
  finishMovement_eq report _

theorem finishMovement_failed (report : PosReport) (detail : Nat) (s : State) :
    finishMovement report
        (raiseEvent .positionFault (detailNat detail) (s.setPos (s.pos.endMovement .unknown))) =
      takeHeld report s.pos.held (s.movementFailed detail) := by
  rw [finishMovement_eq, raiseEvent_pos, ← raiseEvent_setPos]
  rfl

section
variable (s : State) (detail : Nat)

@[simp] theorem State.movementFailed_engine : (s.movementFailed detail).engine = s.engine := raiseEvent_engine ..

@[simp] theorem State.movementFailed_codec : (s.movementFailed detail).codec = s.codec := raiseEvent_codec ..

@[simp] theorem State.movementFailed_tables : (s.movementFailed detail).tables = s.tables := raiseEvent_tables ..

@[simp] theorem State.movementFailed_pos : (s.movementFailed detail).pos = (s.atRest .unknown).pos := raiseEvent_pos ..

theorem takeRecal_failed : takeRecal (s.movementFailed detail) =
    (s.movementFailed detail).setPos (s.recalibratingFrom 255) := by
  rw [takeRecal_unknown _ (by rw [State.movementFailed_pos]; rfl), State.movementFailed_pos,
    State.movementFailed_tables]
  rfl

theorem takeRecal_arrived (target : Nat) :
    takeRecal (s.atRest (.idle target)) = s.setPos (s.recalibratingFrom target) := takeRecal_idle _ target rfl

/-- A held seek is refused where the position is not known. -/
theorem takeSeek_failed (c : Nat) :
    takeSeek c (s.movementFailed detail) = (s.movementFailed detail, some .refused) := by
  simp only [takeSeek, State.movementFailed_pos]
  rfl

theorem takeSeek_there (target : Nat) :
    takeSeek target (s.atRest (.idle target)) = (s.atRest (.idle target), some (.settled target)) := if_pos rfl

end

/-- The state of a seek to cylinder `c` that begins at the end of a movement: step position `x`, the phase stepped. -/
def State.seekingFrom (x c : Nat) (phase : BitVec 2) (s : State) : State :=
  s.setPos { s.pos with
    state := .stepping x c, phase := phase, energised := true, stepTimer := some s.tables.stepMs
    settleTimer := none, held := none, seeks := bump s.pos.seeks }

theorem takeSeek_inward (s : State) {target c : Nat} (h : target < c) : takeSeek c (s.atRest (.idle target)) =
    (s.seekingFrom (2 * target + 1) c (s.pos.phase + 1), none) := by
  have hstep : 2 * target < 2 * c := by omega
  refine (if_neg h.ne).trans ?_
  simp only [Positioner.beginSeek, Positioner.stepToward, if_pos hstep]
  rfl

theorem takeSeek_outward (s : State) {target c : Nat} (h : c < target) : takeSeek c (s.atRest (.idle target)) =
    (s.seekingFrom (2 * target - 1) c (s.pos.phase - 1), none) := by
  have hstep : ¬ 2 * target < 2 * c := by omega
  refine (if_neg h.ne').trans ?_
  simp only [Positioner.beginSeek, Positioner.stepToward, if_neg hstep]
  rfl

/-! ## The two expiries -/

/-- The state after a command whose positioner's part is `x`: the engine acts on the report, if there is one, and a
selection follows where the engine has become IDLE. -/
def reported (s : State) (x : State × Option PosReport) : State := afterEngine s (positionReport? x.2 x.1)

theorem exec_stepTimerExpiry {s : State} (trk0 : Bool) (h : s.pos.stepTimer.isSome = true) :
    exec (.stepTimerExpiry trk0) s = .next (reported s (stepExpiry trk0 s)) := if_pos h

theorem exec_settleTimerExpiry {s : State} (trk0 : Bool) (h : s.pos.settleTimer.isSome = true) :
    exec (.settleTimerExpiry trk0) s = .next (reported s (settleExpiry trk0 s)) := if_pos h

section
variable {s : State} {x target : Nat} (trk0 : Bool) (hp : s.pos.state = .stepping x target)
include hp

theorem stepExpiry_inward (h : x < 2 * target) : stepExpiry trk0 s = (s.setPos { s.pos with
    state := .stepping (x + 1) target, phase := s.pos.phase + 1, energised := true
    stepTimer := some s.tables.stepMs }, none) := by
  simp only [stepExpiry, hp, if_neg h.ne, Positioner.stepToward, if_pos h]
  rfl

theorem stepExpiry_outward (h : 2 * target < x) : stepExpiry trk0 s = (s.setPos { s.pos with
    state := .stepping (x - 1) target, phase := s.pos.phase - 1, energised := true
    stepTimer := some s.tables.stepMs }, none) := by
  simp only [stepExpiry, hp, if_neg h.ne', Positioner.stepToward, if_neg h.not_gt]
  rfl

theorem stepExpiry_there (h : x = 2 * target) : stepExpiry trk0 s = (s.setPos { s.pos with
    state := .settling target false, stepTimer := none, settleTimer := some s.tables.settleMs }, none) := by
  simp only [stepExpiry, hp, if_pos h]
  rfl

end

section
variable {s : State} {taken origin limit : Nat} (hp : s.pos.state = .recalibrating taken origin limit)
include hp

theorem stepExpiry_trackZero : stepExpiry true s = (s.setPos { s.pos with
    state := .settling 0 true, stepTimer := none, settleTimer := some s.tables.settleMs }, none) := by
  simp only [stepExpiry, hp, if_true]
  rfl

theorem stepExpiry_recalSteps (h : taken < limit) : stepExpiry false s = (s.setPos { s.pos with
    state := .recalibrating (taken + 1) origin limit, phase := s.pos.phase - 1, energised := true
    stepTimer := some s.tables.stepMs }, none) := by
  simp only [stepExpiry, hp, Bool.false_eq_true, if_false, if_pos h]
  rfl

theorem stepExpiry_recalFails (h : limit ≤ taken) :
    stepExpiry false s = takeHeld .recalFailed s.pos.held (s.movementFailed origin) := by
  simp only [stepExpiry, hp, Bool.false_eq_true, if_false, if_neg (Nat.not_lt.2 h), finishMovement_failed]

end

theorem arrivalGood_iff (target : Nat) (trk0 : Bool) :
    arrivalGood target trk0 = true ↔ (target = 0 ↔ trk0 = true) := by
  unfold arrivalGood
  cases trk0 <;> simp

section
variable {s : State} {target : Nat} {recal trk0 : Bool} (hp : s.pos.state = .settling target recal)
include hp

theorem settleExpiry_arrives (h : target = 0 ↔ trk0 = true) : settleExpiry trk0 s =
    takeHeld (if recal then .recalDone else .settled target) s.pos.held (s.atRest (.idle target)) := by
  simp only [settleExpiry, hp, if_pos ((arrivalGood_iff target trk0).2 h), finishMovement_arrived]

theorem settleExpiry_fails (h : ¬ (target = 0 ↔ trk0 = true)) : settleExpiry trk0 s =
    takeHeld (if recal then .recalFailed else .seekFault) s.pos.held (s.movementFailed target) := by
  simp only [settleExpiry, hp, if_neg (mt (arrivalGood_iff target trk0).1 h), finishMovement_failed]

end

/-! ## The engine at the positioner's report (06 R94, R99, R100, R115) -/

/-- POSITION is open: the operation's block waits for the head. -/
def Op.awaitsHead (op : Op) : Prop := op.stage = .positionSpeed ∧ op.posOpen = true

/-- The operation acts on a report. -/
def Op.heeds (op : Op) : PosReport → Prop
  | .settled c => op.awaitsHead ∧ c = op.target.cylinder
  | .seekFault | .refused => op.awaitsHead
  | .recalDone | .recalFailed => op.stage = .recalibrate ∨ op.awaitsHead

section
variable {s : State} {op : Op} (ho : s.engine.op = some op)
include ho

theorem positionReport_unheeded {r : PosReport} (h : ¬ op.heeds r) : positionReport r s = s := by
  by_cases hd : op.stage = .drain
  · simp only [positionReport, Engine.working_drain _ op ho hd]
  · have hwork := Engine.working_some _ op ho hd
    cases r with
    | settled c =>
      simp only [positionReport, hwork]
      exact if_neg fun ⟨hs, hopen, hc⟩ => h ⟨⟨hs, hopen⟩, hc⟩
    | seekFault | refused =>
      simp only [positionReport, hwork]
      exact if_neg h
    | recalDone =>
      simp only [positionReport, hwork]
      exact (if_neg (mt .inl h)).trans (if_neg (mt .inr h))
    | recalFailed =>
      simp only [positionReport, hwork]
      exact if_neg h

theorem positionReport_recalDone_recal (hs : op.stage = .recalibrate) : positionReport .recalDone s =
    ended op ⟨.ok, op.blocksDone, op.retriesUsed, none, none⟩ s := by
  simp only [positionReport, Engine.working_some _ op ho (by simp [hs]), if_pos hs]
  exact endWith_eq op .ok s

theorem positionReport_recalFailed (h : op.heeds .recalFailed) : positionReport .recalFailed s =
    ended op ⟨.seekFault, op.blocksDone, op.retriesUsed, none, none⟩ s := by
  have hd : op.stage ≠ .drain := by rcases h with h | ⟨h, -⟩ <;> simp [h]
  simp only [positionReport, Engine.working_some _ op ho hd]
  exact (if_pos h).trans (endWith_eq op .seekFault s)

variable (hw : op.awaitsHead)
include hw

theorem positionReport_settled : positionReport (.settled op.target.cylinder) s =
    closeIfReady { op with posOpen := false } s := by
  obtain ⟨hs, hopen⟩ := hw
  simp only [positionReport, Engine.working_some _ op ho (by simp [hs])]
  exact if_pos ⟨hs, hopen, trivial⟩

theorem positionReport_recalDone : positionReport .recalDone s = reopenPosition op s := by
  obtain ⟨hs, hopen⟩ := hw
  simp only [positionReport, Engine.working_some _ op ho (by simp [hs])]
  exact (if_neg (by simp [hs])).trans (if_pos ⟨hs, hopen⟩)

theorem positionReport_fault {r : PosReport} (hr : r = .seekFault ∨ r = .refused) :
    positionReport r s = positionFault false op s := by
  have hd : op.stage ≠ .drain := by simp [hw.1]
  rcases hr with rfl | rfl <;> simp only [positionReport, Engine.working_some _ op ho hd] <;> exact if_pos hw

end

/-! ## What the expiry leaves -/

theorem reported_silent {s t : State} (he : t.engine = s.engine) : reported s (t, none) = t :=
  afterEngine_same s t (by rw [he])

section
variable {s t : State} (he : t.engine = s.engine)
include he

theorem reported_idle (ho : s.engine.op = none) (r : PosReport) : reported s (t, some r) = t := by
  refine (afterEngine_idle s _ ho).trans ?_
  simp only [positionReport?, positionReport, Engine.working, he, ho]

theorem reported_unheeded {op : Op} (ho : s.engine.op = some op) {r : PosReport} (h : ¬ op.heeds r) :
    reported s (t, some r) = t :=
  (congrArg _ (positionReport_unheeded (he ▸ ho) h)).trans (reported_silent he)

end

section
variable {s : State} {op : Op} (ho : s.engine.op = some op)
include ho

theorem reported_busy (t : State) (r : PosReport) : reported s (t, some r) = schedule (positionReport r t) :=
  afterEngine_busy s _ op ho

theorem reported_recalDone (hs : op.stage = .recalibrate) {t : State} (he : t.engine = s.engine) :
    reported s (t, some .recalDone) = schedule (ended op ⟨.ok, op.blocksDone, op.retriesUsed, none, none⟩ t) :=
  (reported_busy ho t _).trans (congrArg schedule (positionReport_recalDone_recal (he ▸ ho) hs))

theorem reported_recalFailed (h : op.heeds .recalFailed) {t : State} (he : t.engine = s.engine) :
    reported s (t, some .recalFailed) =
      schedule (ended op ⟨.seekFault, op.blocksDone, op.retriesUsed, none, none⟩ t) :=
  (reported_busy ho t _).trans (congrArg schedule (positionReport_recalFailed (he ▸ ho) h))

variable (hw : op.awaitsHead)
include hw

/-- The head has come to the block's cylinder, by its seek or by a recalibration. -/
theorem reported_closes {r : PosReport} (hr : r = .settled op.target.cylinder ∨ r = .recalDone)
    (hc : op.speedOpen = true ∨ s.codec.mode = .idle) :
    reported s (s.atRest (.idle op.target.cylinder), some r) =
      schedule (passOrWait { op with posOpen := false } (s.atRest (.idle op.target.cylinder))) := by
  have hcloses : positionReport r (s.atRest (.idle op.target.cylinder)) =
      closeIfReady { op with posOpen := false } (s.atRest (.idle op.target.cylinder)) := by
    rcases hr with rfl | rfl
    · exact positionReport_settled ho hw
    · rw [positionReport_recalDone (by exact ho) hw, reopenPosition,
        askPosition_eq _ _ _ false (.there rfl)]
      rfl
  exact (reported_busy ho _ r).trans (congrArg schedule (hcloses.trans (closeIfReady_eq _ _ (.inr hc))))

/-- A recalibration that ends away from the block's cylinder is followed by the seek to it. -/
theorem reported_seeks {target : Nat} {t : State}
    (ht : takeSeek op.target.cylinder (s.atRest (.idle target)) = (t, none)) :
    reported s (s.atRest (.idle target), some .recalDone) = t := by
  have he : t.engine = s.engine := by
    have := takeSeek_engine op.target.cylinder (s.atRest (.idle target))
    rwa [ht] at this
  have hopen : { op with posOpen := true } = op := by rw [← hw.2]
  have hask : askPosition op.target.cylinder (s.atRest (.idle target)) = (t, true) :=
    congrArg (fun x : State × Option PosReport => (x.1, x.2.isNone)) ht
  have hreopens : reopenPosition op (s.atRest (.idle target)) = t := by
    rw [reopenPosition, hask]
    simp only [closeIfReady, Bool.true_or, if_true, hopen]
    exact State.setEngine_self t (he ▸ ho)
  rw [reported_busy ho, positionReport_recalDone (by exact ho) hw, hreopens, schedule_busy t (by simp [he, ho])]

/-- The seek of a block has failed: the first time a recalibration follows, the second time the request ends. -/
theorem reported_fault (detail : Nat) {r : PosReport} (hr : r = .seekFault ∨ r = .refused)
    (hc : s.codec.mode = .idle) :
    (op.faultCount = 0 → reported s (s.movementFailed detail, some r) =
      ((s.movementFailed detail).setPos (s.recalibratingFrom 255)).setEngine
        { s.engine with op := some { op with faultCount := 1 } }) ∧
    (op.faultCount ≠ 0 → reported s (s.movementFailed detail, some r) = schedule (ended op
      ⟨.seekFault, op.blocksDone, op.retriesUsed, none, none⟩ (s.movementFailed detail))) := by
  have hstop : codecStop (s.movementFailed detail) = s.movementFailed detail := by
    simp only [codecStop, State.movementFailed_codec, hc]
  rw [reported_busy ho, positionReport_fault (by simpa using ho) hw hr, positionFault_eq false op _ _ hstop]
  refine ⟨fun h => ?_, fun h => by rw [if_neg h]⟩
  obtain ⟨hs, hopen⟩ := hw
  have hop : { op with faultCount := 1, stage := .positionSpeed, posOpen := true } =
      { op with faultCount := 1 } := by rw [← hs, ← hopen]
  rw [if_pos h, schedule_busy _ rfl, takeRecal_failed, hop]
  simp only [State.setOp, State.setPos_engine, State.movementFailed_engine]

end

/-! ## The step timer -/

/-- Settles O42: a step that goes on makes no report; a recalibration that fails reports, or the held request answers in
its place. -/
theorem stepTimerMoves : Obligations.StepTimerMoves := by
  intro s trk0 htimer expires
  have leaves {t : State} (h : reported s (stepExpiry trk0 s) = t) : expires = .next t :=
    (exec_stepTimerExpiry trk0 htimer).trans (congrArg _ h)
  have goesOn {t : State} (h : stepExpiry trk0 s = (t, none)) (he : t.engine = s.engine) : expires = .next t :=
    leaves (h ▸ reported_silent he)
  refine ⟨fun x target hp => ⟨fun h => goesOn (stepExpiry_inward trk0 hp h) rfl,
      fun h => goesOn (stepExpiry_outward trk0 hp h) rfl, fun h => goesOn (stepExpiry_there trk0 hp h) rfl⟩,
    fun taken origin limit hp => ⟨fun ht => ?found, fun ht hl => ?steps, fun ht hl => ?fails⟩⟩ <;> subst ht
  case found => exact goesOn (stepExpiry_trackZero hp) rfl
  case steps => exact goesOn (stepExpiry_recalSteps hp hl) rfl
  case fails =>
    intro failed recalibrating waits faults
    have hfailed : failed.engine = s.engine := s.movementFailed_engine origin
    have hends := stepExpiry_recalFails hp hl
    refine ⟨fun hheld => ?unheld, fun hheld => ?recal, fun c hheld => ?seek⟩ <;> rw [hheld] at hends
    case unheld =>
      have hends : stepExpiry false s = (failed, some .recalFailed) := hends
      rw [hends] at leaves
      exact ⟨fun ho => leaves (reported_idle hfailed ho _), fun op ho =>
        ⟨fun h => leaves (reported_recalFailed ho h.symm hfailed),
          fun hw hs => leaves (reported_unheeded hfailed ho (not_or.2 ⟨hs, hw⟩))⟩⟩
    case recal =>
      exact goesOn (hends.trans (congrArg (·, none) (takeRecal_failed s origin))) hfailed
    case seek =>
      rw [hends.trans (takeSeek_failed s origin c)] at leaves
      refine ⟨fun ho => leaves (reported_idle hfailed ho _), fun op ho =>
        ⟨fun hw => leaves (reported_unheeded hfailed ho hw), fun hw hc => ?_⟩⟩
      obtain ⟨hfirst, hsecond⟩ := reported_fault ho hw origin (.inr rfl) hc
      exact ⟨fun h => leaves (hfirst h), fun h => leaves (hsecond h)⟩

/-! ## The settle timer -/

/-- An operation that waits for no movement acts on no report of the end of one. -/
theorem Op.not_heeds_end {op : Op} {recal : Bool} (hw : ¬ op.awaitsHead)
    (hs : op.stage = .recalibrate → recal = false) (target : Nat) :
    ¬ op.heeds (if recal then .recalDone else .settled target) ∧
      ¬ op.heeds (if recal then .recalFailed else .seekFault) := by
  cases recal with
  | false => exact ⟨fun h => hw h.1, hw⟩
  | true =>
    have hno : ¬ (op.stage = .recalibrate ∨ op.awaitsHead) := not_or.2 ⟨fun h => absurd (hs h) nofun, hw⟩
    exact ⟨hno, hno⟩

/-- Settles O43: by the request held for the end of the movement, then by the operation and by the level of TRK0. -/
theorem settleTimerArrives : Obligations.SettleTimerArrives := by
  intro s trk0 target recal htimer hp rest stepping recalibrating good arrived failed settles done closes waits stays
    moves faults
  have harrived : arrived.engine = s.engine := rfl
  have hfailed : failed.engine = s.engine := s.movementFailed_engine target
  have leaves {x : State × Option PosReport} {t : State} (hx : settleExpiry trk0 s = x) (h : reported s x = t) :
      settles = .next t := (exec_settleTimerExpiry trk0 htimer).trans (congrArg _ (hx ▸ h))
  have arrives (hg : good) := settleExpiry_arrives hp hg
  have fails (hg : ¬ good) := settleExpiry_fails hp hg
  refine ⟨fun hheld => ?unheld, fun c hheld => ?seek, fun hheld => ?recal⟩ <;> rw [hheld] at arrives fails
  case unheld =>
    have arrives (hg : good) : settleExpiry trk0 s = (arrived, some _) := arrives hg
    have fails (hg : ¬ good) : settleExpiry trk0 s = (failed, some _) := fails hg
    refine ⟨fun ho => ?noOp, fun op ho _ hs hr => ?ofRecal, fun op ho hw hs => ?other, fun op ho hw => ?waits⟩
    case noOp =>
      exact ⟨fun hg => leaves (arrives hg) (reported_idle harrived ho _),
        fun hg => leaves (fails hg) (reported_idle hfailed ho _)⟩
    case ofRecal =>
      subst hr
      exact ⟨fun hg => leaves (arrives hg) (reported_recalDone ho hs harrived),
        fun hg => leaves (fails hg) (reported_recalFailed ho (.inl hs) hfailed)⟩
    case other =>
      obtain ⟨hdone, hfault⟩ := Op.not_heeds_end hw hs target
      exact ⟨fun hg => leaves (arrives hg) (reported_unheeded harrived ho hdone),
        fun hg => leaves (fails hg) (reported_unheeded hfailed ho hfault)⟩
    case waits =>
      refine ⟨fun hr hg => ⟨fun hc => ?there, fun hc => ?elsewhere⟩,
        fun hr hg => ⟨fun hc => ?recalThere, fun hc => ?inward, fun hc => ?outward⟩,
        fun hr hg hm => ?seekFails, fun hr hg => ?recalFails⟩ <;> subst hr
      case there =>
        subst hc
        exact fun hm => leaves (arrives hg) (reported_closes ho hw (.inl rfl) hm)
      case elsewhere => exact leaves (arrives hg) (reported_unheeded harrived ho fun h => hc h.2.symm)
      case recalThere =>
        subst hc
        exact fun hm => leaves (arrives hg) (reported_closes ho hw (.inr rfl) hm)
      case inward => exact leaves (arrives hg) (reported_seeks ho hw (takeSeek_inward s hc))
      case outward => exact leaves (arrives hg) (reported_seeks ho hw (takeSeek_outward s hc))
      case seekFails =>
        obtain ⟨hfirst, hsecond⟩ := reported_fault ho hw target (.inl rfl) hm
        exact ⟨fun h => leaves (fails hg) (hfirst h), fun h => leaves (fails hg) (hsecond h)⟩
      case recalFails => exact leaves (fails hg) (reported_recalFailed ho (.inr hw) hfailed)
  case seek =>
    have moved (hg : good) {t : State} (h : takeSeek c arrived = (t, none)) (he : t.engine = s.engine) :
        settles = .next t := leaves ((arrives hg).trans h) (reported_silent he)
    have there (hg : good) (hc : c = target) : settleExpiry trk0 s = (arrived, some (.settled c)) := by
      subst hc
      exact (arrives hg).trans (takeSeek_there s c)
    have refused (hg : ¬ good) : settleExpiry trk0 s = (failed, some .refused) :=
      (fails hg).trans (takeSeek_failed s target c)
    refine ⟨fun hg => ⟨fun hc => moved hg (takeSeek_inward s hc) rfl,
        fun hc => moved hg (takeSeek_outward s hc) rfl⟩,
      fun ho => ?noOp, fun op ho => ⟨fun hw => ?other, fun hw => ⟨fun hg hc => ?arrives, fun hg hm => ?fails⟩⟩⟩
    case noOp =>
      exact ⟨fun hg hc => leaves (there hg hc) (reported_idle harrived ho _),
        fun hg => leaves (refused hg) (reported_idle hfailed ho _)⟩
    case other =>
      exact ⟨fun hg hc => leaves (there hg hc) (reported_unheeded harrived ho fun h => hw h.1),
        fun hg => leaves (refused hg) (reported_unheeded hfailed ho hw)⟩
    case arrives =>
      refine ⟨fun he => ?_, fun he => leaves (there hg hc) (reported_unheeded harrived ho fun h => he h.2.symm)⟩
      subst hc he
      exact fun hm => leaves (there hg rfl) (reported_closes ho hw (.inl rfl) hm)
    case fails =>
      obtain ⟨hfirst, hsecond⟩ := reported_fault ho hw target (.inr rfl) hm
      exact ⟨fun h => leaves (refused hg) (hfirst h), fun h => leaves (refused hg) (hsecond h)⟩
  case recal =>
    have restarts (hg : good) := (arrives hg).trans (congrArg (·, none) (takeRecal_arrived s target))
    have recalibrates (hg : ¬ good) := (fails hg).trans (congrArg (·, none) (takeRecal_failed s target))
    exact ⟨fun hg => leaves (restarts hg) (reported_silent rfl),
      fun hg => leaves (recalibrates hg) (reported_silent hfailed)⟩

end Sys2Proof.Machine
end

section
/-!
PROOFS. The frames of the host (09 R153 to R158): the bit receiver over the levels of one command, the byte receiver in
each of its states, the frame judged, and its decoding; a frame on HI does what its own command does.
-/

namespace Sys2Proof.Machine

/-! ## Frames decoded (09 R157, R159 to R161) -/

/-- The three bytes of an LBA field hold all its bits. -/
theorem lbaBytes_joined (lba : Lba) :
    lba.extractLsb' 16 8 ++ lba.extractLsb' 8 8 ++ lba.extractLsb' 0 8 = lba := by
  rw [BitVec.extractLsb'_append_extractLsb'_eq_extractLsb' (show 16 = 8 + 8 from rfl),
    BitVec.extractLsb'_append_extractLsb'_eq_extractLsb' (show 8 = 0 + 8 from rfl)]
  exact BitVec.extractLsb'_eq_self

/-- The two bytes of an event mask hold all its bits. -/
theorem maskBytes_joined (mask : BitVec 16) : mask.extractLsb' 8 8 ++ mask.extractLsb' 0 8 = mask := by
  rw [BitVec.extractLsb'_append_extractLsb'_eq_extractLsb' (show 8 = 0 + 8 from rfl)]
  exact BitVec.extractLsb'_eq_self

/-- Decoding undoes encoding: fields of one byte stand as they are, longer ones are joined again. -/
theorem decodeFrame_encodeFrame {i : Instr} {kind tag : Byte} {payload : List Byte} (hw : i.wellFormed = true)
    (he : encodeFrame i = some (kind, tag, payload)) : decodeFrame kind tag payload = some i := by
  cases i with
  | read _ lba count flags =>
    cases he
    exact congrArg (fun x => some (Instr.read tag x count flags)) (lbaBytes_joined lba)
  | write _ lba count flags =>
    cases he
    exact congrArg (fun x => some (Instr.write tag x count flags)) (lbaBytes_joined lba)
  | verify _ lba count flags =>
    cases he
    exact congrArg (fun x => some (Instr.verify tag x count flags)) (lbaBytes_joined lba)
  | reassign _ lba =>
    cases he
    exact congrArg (fun x => some (Instr.reassign tag x)) (lbaBytes_joined lba)
  | eventSet _ mask =>
    cases he
    exact congrArg (fun x => some (Instr.eventSet tag x)) (maskBytes_joined mask)
  | block | loadPut =>
    cases he
    exact if_pos hw
  | format | recal | spin | loadOpen | loadClose | loadDrop | commit | tableGet | wipe | query | eventAck | abort =>
    cases he
    rfl
  | _ => cases he

/-- Settles O33, by the laws of decoding above. -/
theorem frameDecodesToItself : Obligations.FrameDecodesToItself := fun _ _ _ _ => decodeFrame_encodeFrame

/-- The kinds with a LEN of their own, each with it (09 R157). -/
def fixedLens : List (Nat × Nat) :=
  [(0x01, 7), (0x02, 7), (0x03, 7), (0x04, 5), (0x05, 5), (0x06, 2), (0x07, 3), (0x10, 515), (0x20, 3), (0x22, 2),
    (0x23, 3), (0x24, 2), (0x25, 4), (0x26, 2), (0x27, 3), (0x28, 4), (0x29, 3), (0x2A, 3)]

/-- The same but for the BLOCK's: the kinds of at most five payload bytes. -/
def shortLens : List (Nat × Nat) := fixedLens.filter fun x => x.1 != 0x10

/-- A BLOCK carries its index and 512 data bytes (09 R160). -/
theorem decodeFrame_block {tag : Byte} {payload : List Byte} {i : Instr} (h : decodeFrame 0x10 tag payload = some i) :
    payload.length + 2 = 515 := by
  cases payload with
  | nil => cases h
  | cons index data =>
    have hdata : blockDataOk data = true := by
      by_contra hne
      exact absurd ((if_neg hne).symm.trans h) nofun
    simpa [blockDataOk] using hdata

/-- A LOAD_PUT carries 1 to 512 bytes of entries (09 R161). -/
theorem decodeFrame_loadPut {tag : Byte} {payload : List Byte} {i : Instr} (h : decodeFrame 0x21 tag payload = some i) :
    1 ≤ payload.length ∧ payload.length ≤ 512 := by
  have hput : loadPutOk payload = true := by
    by_contra hne
    exact absurd ((if_neg hne).symm.trans h) nofun
  simpa [loadPutOk] using hput

/-- A kind of a few payload bytes takes that many: with the kind known, the match is on the payload alone. -/
theorem decodeFrame_short {x : Nat × Nat} (hx : x ∈ shortLens) {tag : Byte} {payload : List Byte} {i : Instr}
    (h : decodeFrame (byte x.1) tag payload = some i) : payload.length + 2 = x.2 := by
  rcases payload with _ | ⟨a, _ | ⟨b, _ | ⟨c, _ | ⟨d, _ | ⟨e, _ | ⟨f, rest⟩⟩⟩⟩⟩⟩
  all_goals fin_cases hx <;> cases h <;> rfl

/-- A byte that is no kind of the host's stands for no command. -/
theorem decodeFrame_unknown {kind : Byte} (tag : Byte) (payload : List Byte) (hblock : kind.toNat ≠ 0x10)
    (hput : kind.toNat ≠ 0x21) (h : kind.toNat ∉ shortLens.map (·.1)) : decodeFrame kind tag payload = none := by
  unfold decodeFrame
  generalize kind.toNat = n at hblock hput h
  have hn : n = 0 ∨ (8 ≤ n ∧ n ≤ 15) ∨ (17 ≤ n ∧ n ≤ 31) ∨ 43 ≤ n := by
    simp [shortLens, fixedLens] at h
    omega
  obtain rfl | ⟨hlow, hhigh⟩ | ⟨hlow, hhigh⟩ | hbeyond := hn
  · rfl
  · interval_cases n <;> rfl
  · interval_cases n <;> rfl
  · obtain ⟨k, rfl⟩ := Nat.exists_eq_add_of_le' hbeyond
    rfl

/-- A frame that stands for a command has the LEN of its kind, a LOAD_PUT one of 3 to 514 (09 R157). -/
theorem decodeFrame_len {kind tag : Byte} {payload : List Byte} {i : Instr}
    (h : decodeFrame kind tag payload = some i) : (kind.toNat, payload.length + 2) ∈ fixedLens ∨
      kind = 0x21 ∧ 3 ≤ payload.length + 2 ∧ payload.length + 2 ≤ 514 := by
  by_cases hshort : kind.toNat ∈ shortLens.map (·.1)
  · obtain ⟨x, hx, hk⟩ := List.mem_map.1 hshort
    have hkind : kind = byte x.1 := by simp [hk, byte]
    left
    rw [← hk, decodeFrame_short hx (hkind ▸ h)]
    exact (List.mem_filter.1 hx).1
  by_cases hblock : kind.toNat = 0x10
  · obtain rfl : kind = 0x10 := BitVec.eq_of_toNat_eq hblock
    left
    rw [decodeFrame_block h]
    decide
  by_cases hput : kind.toNat = 0x21
  · obtain rfl : kind = 0x21 := BitVec.eq_of_toNat_eq hput
    obtain ⟨hlow, hhigh⟩ := decodeFrame_loadPut h
    exact .inr ⟨rfl, by omega, by omega⟩
  · exact absurd ((decodeFrame_unknown tag payload hblock hput hshort).symm.trans h) nofun

/-- Every host frame fits the receiver (09 R155, R157). -/
theorem decodeFrame_lenOk {kind tag : Byte} {payload : List Byte} {i : Instr}
    (h : decodeFrame kind tag payload = some i) : 2 ≤ payload.length + 2 ∧ payload.length + 2 ≤ 522 := by
  have hfixed : ∀ x ∈ fixedLens, 2 ≤ x.2 ∧ x.2 ≤ 522 := by decide
  obtain hx | ⟨-, hlow, hhigh⟩ := decodeFrame_len h
  · exact hfixed _ hx
  · omega

/-- What a command does that is a host frame is what its frame's owner does (09 R157). -/
theorem exec_deliver {i : Instr} {frame : Byte × Byte × List Byte} (h : encodeFrame i = some frame) (s : State) :
    exec i s = .next (deliver i s) := by
  cases i with
  | read | write | verify | format | reassign | recal | spin | block | loadOpen | loadPut | loadClose | loadDrop
  | commit | tableGet | wipe | query | eventSet | eventAck | abort => rfl
  | _ => cases h

/-! ## Management frames (09 R158) -/

theorem manage_overrun {s : State} (hheld : s.resetHeld = false) (hfull : 4 ≤ s.arb.replies.length)
    (act : State → State) : manage act s = countOverrun s := by
  have hbusy : ¬ s.arb.replies.length < Config.replyLimit := Nat.not_lt.2 hfull
  simp only [manage, hheld, hbusy, if_false, Bool.false_eq_true]

/-- Settles O19: every management frame goes through `manage`. -/
theorem managementOverrun : Obligations.ManagementOverrun := by
  intro i s hi hw hheld hfull
  have overrun (act : State → State) : (.next (manage act s) : Result) = .next (countOverrun s) :=
    congrArg _ (manage_overrun hheld hfull act)
  cases i with
  | loadPut seq entries =>
    have htaken : takeLoadPut seq entries s = manage (loadPut seq entries) s := by
      have hok : loadPutOk entries = true := hw
      simp only [takeLoadPut, hheld, hok, if_true, if_false, Bool.false_eq_true]
    exact (congrArg Host.Outcome.next htaken).trans (overrun _)
  | loadOpen | loadClose | loadDrop | commit | tableGet | wipe | query | eventSet | eventAck | abort => exact overrun _
  | _ => cases hi

/-! ## The bit receiver (09 R153) -/

theorem State.setLane_self {s : State} {lane : Option (List Bool)} (h : s.link.lane = lane) : s.setLane lane = s := by
  subst h
  rfl

/-- Idle bits, a start bit and eight bits: a byte is taken. -/
theorem exec_hiByte_whole {s : State} (hlane : s.link.lane = none) (idle : Nat) (b : Byte) :
    exec (.hiByte (List.replicate idle true ++ laneByte b)) s = .next (takeByte b s) := by
  have hread : readLane none (List.replicate idle true ++ laneByte b) = .byte b := by
    rw [readLane_idle, ← List.append_nil (laneByte b), readLane_laneByte]
  simp only [exec, execHiByte, hlane, hread, State.setLane_self hlane]

theorem exec_hiByte_idle {s : State} (hlane : s.link.lane = none) (idle : Nat) :
    exec (.hiByte (List.replicate idle true)) s = .next s := by
  have hread : readLane none (List.replicate idle true) = .more none := by
    rw [← List.append_nil (List.replicate idle true), readLane_idle, readLane]
  simp only [exec, execHiByte, hlane, hread, State.setLane_self hlane]

theorem exec_hiByte_part {s : State} (hlane : s.link.lane = none) {bits : List Bool} (h : bits.length < 8) :
    exec (.hiByte (false :: bits)) s = .next (s.setLane (some bits)) := by
  have hread : readLane none (false :: bits) = .more (some bits) := readLane_part [] bits (by simpa using h)
  simp only [exec, execHiByte, hlane, hread]

/-- The rest of a byte that came in parts. -/
theorem exec_hiByte_rest {s : State} (hlane : s.link.lane = none) {bits more : List Bool} {b : Byte}
    (h : bits ++ more = byteBits b) (hne : more ≠ []) :
    exec (.hiByte more) (s.setLane (some bits)) = .next (takeByte b s) := by
  have hread : readLane (some bits) more = .byte b := by
    simpa using readLane_rest bits more [] b h hne
  have hback : (s.setLane (some bits)).setLane none = s := State.setLane_self (s := s) hlane
  simp only [exec, execHiByte, State.setLane_link, hread, hback]

/-! ## The byte receiver (09 R155) -/

theorem takeByte_held {s : State} (h : s.resetHeld = true) (b : Byte) : takeByte b s = s := if_pos h

theorem takeByte_free {s : State} (h : s.resetHeld = false) (b : Byte) : takeByte b s = receiveByte b s :=
  if_neg (by simp [h])

section
variable {s : State} {b : Byte}

theorem receiveByte_hunt (h : s.link.rx = .hunt) :
    receiveByte b s = if b = 0xC3 then s.setRx (.header none) else s := by
  simp only [receiveByte, h]
  rfl

theorem receiveByte_header (h : s.link.rx = .header none) : receiveByte b s = s.setRx (.header (some b)) := by
  simp only [receiveByte, h]

theorem receiveByte_len {hi : Byte} (h : s.link.rx = .header (some hi)) (hlow : 2 ≤ hi.toNat * 256 + b.toNat)
    (hhigh : hi.toNat * 256 + b.toNat ≤ 522) :
    receiveByte b s = s.setRx (.body (hi.toNat * 256 + b.toNat) []) := by
  simp [receiveByte, h, lenOk, hlow, hhigh]

theorem receiveByte_badLen {hi : Byte} (h : s.link.rx = .header (some hi))
    (hbad : hi.toNat * 256 + b.toNat < 2 ∨ 522 < hi.toNat * 256 + b.toNat) :
    receiveByte b s = countBadLength (s.setRx .hunt) := by
  have hno : ¬ (2 ≤ hi.toNat * 256 + b.toNat ∧ hi.toNat * 256 + b.toNat ≤ 522) := by omega
  simp [receiveByte, h, lenOk, hno]

theorem receiveByte_body {len : Nat} {bytes : List Byte} (h : s.link.rx = .body len bytes)
    (hmore : bytes.length + 1 < len + 2) : receiveByte b s = s.setRx (.body len (bytes ++ [b])) := by
  simp only [receiveByte, h, if_pos hmore]

theorem receiveByte_last {len : Nat} {bytes : List Byte} (h : s.link.rx = .body len bytes)
    (hlast : len + 2 ≤ bytes.length + 1) : receiveByte b s = judge len (bytes ++ [b]) (s.setRx .hunt) := by
  simp only [receiveByte, h, if_neg (Nat.not_lt.2 hlast)]

end

/-! ## A complete frame (09 R156) -/

section
variable {len : Nat} {bytes : List Byte} {s : State}

theorem judge_badCrc (h : crc16 (be16 len ++ bytes.take len) ≠ beNat (bytes.drop len)) :
    judge len bytes s = countBadCrc s := if_pos h

variable (hcrc : crc16 (be16 len ++ bytes.take len) = beNat (bytes.drop len)) {kind tag : Byte} {payload : List Byte}
  (hparts : bytes.take len = kind :: tag :: payload)
include hcrc hparts

theorem judge_unknown (h : decodeFrame kind tag payload = none) : judge len bytes s = countBadLength s := by
  rw [judge, if_neg (not_not.2 hcrc)]
  simp only [hparts, h]

theorem judge_good {i : Instr} (h : decodeFrame kind tag payload = some i) : judge len bytes s = deliver i s := by
  rw [judge, if_neg (not_not.2 hcrc)]
  simp only [hparts, h]

end

/-- Settles O31: the bit receiver, then the byte receiver by its state, then the judgement of the frame. -/
theorem receiverStates : Obligations.ReceiverStates := by
  intro s idle b hlane byteTaken goes
  have taken : byteTaken = .next (takeByte b s) := exec_hiByte_whole hlane idle b
  refine ⟨exec_hiByte_idle hlane idle, fun bits => exec_hiByte_part hlane, fun bits more h hne => ?parts,
    fun hheld => taken.trans (congrArg _ (takeByte_held hheld b)), fun hfree => ?free⟩
  case parts => exact (exec_hiByte_rest hlane h hne).trans (exec_hiByte_whole hlane 0 b).symm
  case free =>
    have received {t : State} (h : receiveByte b s = t) : byteTaken = .next t :=
      taken.trans (congrArg _ ((takeByte_free hfree b).trans h))
    refine ⟨fun hrx => received (receiveByte_hunt hrx), fun hrx => received (receiveByte_header hrx),
      fun hi hrx => ⟨fun hlow hhigh => received (receiveByte_len hrx hlow hhigh),
        fun hbad => received (receiveByte_badLen hrx hbad)⟩,
      fun len bytes hrx => ⟨fun hmore => received (receiveByte_body hrx hmore),
        fun hlast hcrc => received ((receiveByte_last hrx hlast).trans (judge_badCrc hcrc)),
        fun kind rest hend hlen hbytes hcrc hfixed hput => ?unknown⟩⟩
    case unknown =>
      obtain ⟨n, rfl⟩ := Nat.exists_eq_add_of_le' hlen
      obtain ⟨tag, more, rfl⟩ : ∃ tag more, rest = tag :: more :=
        List.exists_cons_of_length_pos (by simp [hbytes] at hend; omega)
      subst hbytes
      have hpayload : ((more ++ [b]).take n).length = n := by
        simp only [List.length_cons] at hend
        simp only [List.length_take, List.length_append, List.length_singleton]
        omega
      have hnone : decodeFrame kind tag ((more ++ [b]).take n) = none := by
        refine Option.eq_none_iff_forall_not_mem.2 fun i hi => ?_
        have hlens := decodeFrame_len hi
        rw [hpayload] at hlens
        exact hlens.elim hfixed hput
      exact received ((receiveByte_last hrx (by omega)).trans (judge_unknown hcrc rfl hnone))

/-! ## A whole frame on HI (09 R153 to R157) -/

theorem feed_cons {s : State} (hlane : s.link.lane = none) (hfree : s.resetHeld = false) (idle : Nat) (b : Byte)
    (bs : List Byte) : feed idle (b :: bs) s = feed idle bs (receiveByte b s) := by
  rw [feed, exec_hiByte_whole hlane, takeByte_free hfree]

section
variable {s : State} (hlane : s.link.lane = none) (hfree : s.resetHeld = false) (idle : Nat)
include hlane hfree

/-- The rest of a frame, from BODY with some of its bytes taken: at its last byte it is judged. -/
theorem feed_body (len : Nat) (bytes rest : List Byte) (hlen : bytes.length + rest.length = len + 2)
    (hne : rest ≠ []) :
    feed idle rest (s.setRx (.body len bytes)) = .next (judge len (bytes ++ rest) (s.setRx .hunt)) := by
  induction rest generalizing bytes with
  | nil => exact absurd rfl hne
  | cons b rest ih =>
    rw [List.length_cons] at hlen
    rw [feed_cons (s := s.setRx (.body len bytes)) hlane hfree]
    cases rest with
    | nil =>
      rw [receiveByte_last rfl (by simp only [List.length_nil] at hlen; omega)]
      rfl
    | cons c rest =>
      rw [receiveByte_body rfl (by simp only [List.length_cons] at hlen; omega)]
      have := ih (bytes ++ [b]) (by simp only [List.length_append, List.length_singleton]; omega) nofun
      rwa [List.append_assoc] at this

/-- From HUNT, SYNC and a LEN the receiver takes lead to BODY. -/
theorem feed_header (hrx : s.link.rx = .hunt) (hi lo : Byte) (rest : List Byte)
    (hlow : 2 ≤ hi.toNat * 256 + lo.toNat) (hhigh : hi.toNat * 256 + lo.toNat ≤ 522) :
    feed idle (0xC3 :: hi :: lo :: rest) s = feed idle rest (s.setRx (.body (hi.toNat * 256 + lo.toNat) [])) := by
  have next (rx : Receiver) (b : Byte) (bs : List Byte) :
      feed idle (b :: bs) (s.setRx rx) = feed idle bs (receiveByte b (s.setRx rx)) :=
    feed_cons (s := s.setRx rx) hlane hfree idle b bs
  calc feed idle (0xC3 :: hi :: lo :: rest) s
    _ = feed idle (hi :: lo :: rest) (s.setRx (.header none)) := by
      rw [feed_cons hlane hfree, receiveByte_hunt hrx, if_pos rfl]
    _ = feed idle (lo :: rest) (s.setRx (.header (some hi))) := by
      rw [next, receiveByte_header rfl]
      rfl
    _ = feed idle rest (s.setRx (.body (hi.toNat * 256 + lo.toNat) [])) := by
      rw [next, receiveByte_len rfl hlow hhigh]
      rfl

/-- A frame from HUNT is taken to its judgement. -/
theorem feed_frameBytes (hrx : s.link.rx = .hunt) (kind tag : Byte) (payload : List Byte)
    (hlen : payload.length + 2 ≤ 522) :
    feed idle (frameBytes kind tag payload) s = .next (judge (payload.length + 2)
      (kind :: tag :: payload ++ be16 (crc16 (frameBody kind tag payload))) s) := by
  have hfield : (byte ((payload.length + 2) / 256)).toNat * 256 + (byte (payload.length + 2)).toNat =
      payload.length + 2 := by
    rw [byte_toNat, byte_toNat]
    omega
  have hhunt : s.setRx .hunt = s := by
    rw [← hrx]
    rfl
  have hheader := feed_header hlane hfree idle hrx (byte ((payload.length + 2) / 256)) (byte (payload.length + 2))
    (kind :: tag :: payload ++ be16 (crc16 (frameBody kind tag payload))) (by omega) (by omega)
  have hbody := feed_body hlane hfree idle (payload.length + 2) []
    (kind :: tag :: payload ++ be16 (crc16 (frameBody kind tag payload)))
    (by simp only [List.length_append, List.length_cons, List.length_nil, be16_length]; omega) nofun
  rw [hfield] at hheader
  rw [hhunt] at hbody
  exact hheader.trans hbody

end

/-- The bytes after LEN hold the frame's own check (09 R154). -/
theorem judge_frameBody {kind tag : Byte} {payload : List Byte} {i : Instr} (h : decodeFrame kind tag payload = some i)
    (s : State) : judge (payload.length + 2) (kind :: tag :: payload ++ be16 (crc16 (frameBody kind tag payload))) s =
      deliver i s := by
  have htake : (kind :: tag :: payload ++ be16 (crc16 (frameBody kind tag payload))).take (payload.length + 2) =
      kind :: tag :: payload := List.take_left' rfl
  have hdrop : (kind :: tag :: payload ++ be16 (crc16 (frameBody kind tag payload))).drop (payload.length + 2) =
      be16 (crc16 (frameBody kind tag payload)) := List.drop_left' rfl
  refine judge_good ?_ htake h
  rw [htake, hdrop, beNat_be16_crc16, frameBody]

/-- Settles O32: the frame is taken to its judgement, and its owner does what the command does. -/
theorem laneBytesDeliverTheFrame : Obligations.LaneBytesDeliverTheFrame := by
  intro i bytes s idle hw hbytes hfree hrx hlane
  obtain ⟨⟨kind, tag, payload⟩, he, rfl⟩ := Option.map_eq_some_iff.1 hbytes
  have hd := decodeFrame_encodeFrame hw he
  calc feed idle (frameBytes kind tag payload) s
    _ = .next (deliver i s) := by
      rw [feed_frameBytes hlane hfree idle hrx kind tag payload (decodeFrame_lenOk hd).2, judge_frameBody hd]
    _ = exec i s := (exec_deliver he s).symm

end Sys2Proof.Machine
end

section
/-!
PROOFS. The output arbiter (09 R166): the class it takes a frame from, and what the last byte of a frame does before it
chooses again (09 R167).
-/

namespace Sys2Proof.Machine

/-! ## The arbiter's choice (09 R166, R168) -/

theorem arbitrate_waits {s : State} (h : s.resetHeld = true ∨ s.arb.ho.isSome = true) : arbitrate s = s :=
  if_pos (by simpa using h)

section
variable {s : State} (hheld : s.resetHeld = false) (hho : s.arb.ho = none)
include hheld hho

theorem arbitrate_notice {n : Notice} (h : s.arb.notice = some n) : arbitrate s = s.startFrame (.notice n) := by
  simp [arbitrate, hheld, hho, h]

variable (hnotice : s.arb.notice = none)
include hnotice

theorem arbitrate_reply {r : Reply} {rest : List Reply} (h : s.arb.replies = r :: rest) :
    arbitrate s = s.startFrame (.reply r) := by
  simp [arbitrate, hheld, hho, hnotice, h]

variable (hreplies : s.arb.replies = [])
include hreplies

theorem arbitrate_doneCall {f : DoneCall} {rest : List DoneCall} (h : s.arb.doneCall = f :: rest) :
    arbitrate s = startDoneCall f rest s := by
  simp [arbitrate, hheld, hho, hnotice, hreplies, h]

variable (hdoneCall : s.arb.doneCall = [])
include hdoneCall

theorem arbitrate_block {p : Nat} {rest : List Nat} (h : s.arb.blocks = p :: rest) :
    arbitrate s = startBlock p rest s := by
  simp [arbitrate, hheld, hho, hnotice, hreplies, hdoneCall, h]

theorem arbitrate_event (h : s.arb.blocks = []) : arbitrate s = startEvent s := by
  simp [arbitrate, hheld, hho, hnotice, hreplies, hdoneCall, h]

end

/-! ## The frame started (04 R58, R63; 11 R191) -/

/-- The write-data records of a tag that stand in one state of their CALL are changed. -/
theorem Buffer.updateWrite_call (b : Buffer) (tag : Tag) (c : CallState) (f : WriteData → WriteData) :
    b.updateWrite tag (fun w => if w.call = c then f w else w) =
      { b with writes := b.writes.map fun w => if w.tag = tag ∧ w.call = c then f w else w } := by
  simp only [Buffer.updateWrite, beq_iff_eq, ite_and]

theorem startBlock_full {s : State} {p index : Nat} {tag : Tag} {page : Page} (hp : s.buffer.pages[p]? = some page)
    (huse : page.use = .full tag index) (rest : List Nat) : startBlock p rest s =
      (s.setArb { s.arb with blocks := rest, ho := some (.block tag index page.data p) }).setBuffer
        (s.buffer.setUse p (.sending tag index)) := by
  have hfull : s.buffer.useOf p = .full tag index := by simp [Buffer.useOf, hp, huse]
  have hdata : s.buffer.dataOf p = page.data := by simp [Buffer.dataOf, hp]
  simp only [startBlock, hfull, hdata]

theorem startEvent_offered {s : State} {seq : Byte} {r : EventRecord} {rest : List EventRecord}
    (ho : s.events.outstanding = some ⟨seq, .offered⟩) (hq : s.events.queue = r :: rest) : startEvent s =
      (s.startFrame (.event seq r.kind r.count r.detail)).setEvents
        { s.events with outstanding := some ⟨seq, .sending⟩ } := by
  simp only [startEvent, ho, hq]

theorem startEvent_unoffered {s : State} (h : ∀ seq, s.events.outstanding ≠ some ⟨seq, .offered⟩) :
    startEvent s = s := by
  unfold startEvent
  split
  · exact absurd ‹_› (h _)
  · rfl

/-- Settles O34: class by class. -/
theorem arbiterChoice : Obligations.ArbiterChoice := by
  refine fun s => ⟨arbitrate_waits, fun hheld hho => ⟨fun n => arbitrate_notice hheld hho, fun hnotice =>
    ⟨fun r rest => arbitrate_reply hheld hho hnotice, fun hreplies =>
      ⟨fun tag report rest => arbitrate_doneCall hheld hho hnotice hreplies, fun tag rest h => ?call, fun hdoneCall =>
        ⟨fun p rest page tag index h hp huse => ?block, fun hblocks =>
          ⟨fun seq r rest ho hq => ?event, fun ho => ?silent⟩⟩⟩⟩⟩⟩
  case call => rw [arbitrate_doneCall hheld hho hnotice hreplies h, startDoneCall, Buffer.updateWrite_call]
  case block =>
    rw [arbitrate_block hheld hho hnotice hreplies hdoneCall h, startBlock_full hp huse]
    rfl
  case event =>
    rw [arbitrate_event hheld hho hnotice hreplies hdoneCall hblocks, startEvent_offered ho hq]
    rfl
  case silent => rw [arbitrate_event hheld hho hnotice hreplies hdoneCall hblocks, startEvent_unoffered ho]

/-! ## The last byte of a frame (09 R167) -/

section
variable {s : State} {tag : Tag}

theorem exec_noticeSent {n : Notice} (h : s.arb.ho = some (.notice n)) : exec .noticeSent s = .next (noticeGone s) := by
  simp only [exec, execNoticeSent, h]

theorem exec_replySent {r : Reply} (h : s.arb.ho = some (.reply r)) : exec .replySent s = .next (replyGone s) := by
  simp only [exec, execReplySent, h]

theorem exec_doneSent {report : DoneReport} (h : s.arb.ho = some (.done tag report)) :
    exec .doneSent s = .next (doneGone tag s) := by
  simp only [exec, execDoneSent, h]

theorem exec_callSent (h : s.arb.ho = some (.call tag)) : exec .callSent s = .next (callGone tag s) := by
  simp only [exec, execCallSent, h]

theorem exec_blockSent {index page : Nat} {data : List Byte} (h : s.arb.ho = some (.block tag index data page)) :
    exec .blockSent s = .next (schedule (freeLane (pageGone tag page s))) := by
  simp only [exec, execBlockSent, h]

/-- A READ with its end report and no page left is done (05 R87). -/
theorem drained_done {r : Record} {report : DoneReport} (hr : s.queue.find tag = some r)
    (he : r.endReport = some report) (hpages : s.buffer.ownedBy tag = []) :
    drained tag s = produceDone tag report s := by
  simp only [drained, hr, he, hpages, List.isEmpty_nil, if_true]

theorem drained_waits (h : ∀ r report, s.queue.find tag = some r → r.endReport = some report →
    s.buffer.ownedBy tag ≠ []) : drained tag s = s := by
  unfold drained
  cases hr : s.queue.find tag with
  | none => rfl
  | some r =>
    cases he : r.endReport with
    | none => simp only [he]
    | some report => simp only [he, List.isEmpty_iff, h r report hr he, if_false]

end

/-- data_timeout_s is the active device record's (04 R59). -/
theorem Tables.dataTimeoutS_eq (t : Tables) :
    t.dataTimeoutS = (t.active.map (·.device.dataTimeoutS)).getD 0 := by
  simp only [Tables.dataTimeoutS, Tables.param, Tables.device?, Option.map_map, Function.comp_def]

/-- Settles O35: each report acts on its own block, then the lane is free and the arbiter chooses. -/
theorem lastByteReports : Obligations.LastByteReports := by
  refine fun s => ⟨fun n h => exec_noticeSent h, fun r h => exec_replySent h, fun tag report h => exec_doneSent h,
    fun tag h => ?call, ?block⟩
  case call =>
    rw [exec_callSent h, callGone, Buffer.updateWrite_call, Tables.dataTimeoutS_eq]
    rfl
  case block =>
    intro tag index page data h s1 choice
    have sent {t : State} (ht : drained tag s1 = t) : exec .blockSent s = .next (choice t) :=
      (exec_blockSent h).trans (congrArg (fun u => Host.Outcome.next (choice u)) ht)
    exact ⟨fun r report hr he hpages => sent (drained_done hr he hpages), fun hwaits => sent (drained_waits hwaits)⟩

end Sys2Proof.Machine
end

section
/-!
PROOFS. The part's data outputs: the bits of a frame on HO and the payload of each frame kind (09 R153 to R165), the
level of WDATA (01 R17), and the recorded bytes of fields and tracks with their counts (01 R7 to R9, R18).
-/

namespace Sys2Proof.Machine

/-! ## Bits on a data output (00_scope.md, bit order) -/

/-- Pieces of one length, put together: element `j` of piece `k`. -/
theorem flatMap_getElem? {α β : Type} {f : α → List β} {n : Nat} (hf : ∀ a, (f a).length = n) {xs : List α} {k : Nat}
    {a : α} (hk : xs[k]? = some a) {j : Nat} (hj : j < n) : (xs.flatMap f)[n * k + j]? = (f a)[j]? := by
  induction xs generalizing k with
  | nil => simp at hk
  | cons x xs ih =>
    rw [List.flatMap_cons]
    cases k with
    | zero =>
      obtain rfl : x = a := by simpa using hk
      rw [Nat.mul_zero, Nat.zero_add, List.getElem?_append_left (by rw [hf]; exact hj)]
    | succ k =>
      rw [List.getElem?_append_right (by rw [hf, Nat.mul_succ]; omega), hf,
        show n * (k + 1) + j - n = n * k + j by rw [Nat.mul_succ]; omega, ih (by simpa using hk)]

theorem byteBits_getElem? (b : Byte) {j : Nat} (hj : j < 8) : (byteBits b)[j]? = some (b.getLsbD (7 - j)) := by
  interval_cases j <;> rfl

/-! ## HO (09 R153) -/

theorem Arbiter.hoDat_byte {a : Arbiter} {f : OutFrame} {k : Nat} {b : Byte} (hho : a.ho = some f)
    (hb : f.bytes[k]? = some b) {j : Nat} (hj : j < 9) : a.hoDat (9 * k + j) = (laneByte b).getD j true := by
  simp only [Arbiter.hoDat, hho, List.getD_eq_getElem?_getD, OutFrame.bits, flatMap_getElem? laneByte_length hb hj]

theorem laneByte_start (b : Byte) : (laneByte b).getD 0 true = false := rfl

theorem laneByte_bit (b : Byte) {j : Nat} (hj : j < 8) : (laneByte b).getD (1 + j) true = b.getLsbD (7 - j) := by
  rw [Nat.add_comm, laneByte, List.getD_cons_succ, List.getD_eq_getElem?_getD, byteBits_getElem? b hj, Option.getD_some]

/-! ## WDATA (01 R17) -/

theorem Codec.wdataLevel_on {c : Codec} (hgate : c.wgate = true) (k : Nat) {j : Nat} (hj : j < 8) :
    c.wdataLevel (8 * k + j) = (c.sentByte k).getLsbD (7 - j) := by
  have hbyte : (8 * k + j) / 8 = k := by omega
  have hbit : (8 * k + j) % 8 = j := by omega
  rw [Codec.wdataLevel, if_pos hgate, hbyte, hbit, List.getD_eq_getElem?_getD, byteBits_getElem? _ hj, Option.getD_some]

theorem Codec.sentByte_recorded {c : Codec} {k : Nat} {b : Byte} (h : c.wdata[k]? = some b) : c.sentByte k = b := by
  rw [Codec.sentByte, List.getD_eq_getElem?_getD, h, Option.getD_some]

theorem Codec.sentByte_fill {c : Codec} {k : Nat} (h : c.wdata[k]? = none) : c.sentByte k = 0xFF := by
  rw [Codec.sentByte, List.getD_eq_getElem?_getD, h, Option.getD_none, fillByte]

/-! ## Recorded bytes (01 R2, R4, R7 to R9, R18) -/

/-- A byte a track may hold: a reserved one, or one of the code table. -/
def Recordable (code : List Byte) (b : Byte) : Prop := b ∈ reservedBytes ∨ b ∈ code

theorem recordable_reserved {code : List Byte} {b : Byte} (h : b ∈ reservedBytes) : Recordable code b := .inl h

theorem recordable_fill (code : List Byte) (n : Nat) : ∀ b ∈ List.replicate n fillByte, Recordable code b :=
  fun _ h => List.eq_of_mem_replicate h ▸ recordable_reserved (by decide)

theorem codeBytes_length (code payload : List Byte) :
    (codeBytes code payload).length = (8 * payload.length + 5) / 6 := by
  rw [codeBytes, List.length_map, packGroups_length]

theorem addressField_length (code : List Byte) (id : SectorId) : (addressField code id).length = 12 := by
  simp only [addressField, List.length_append, codeBytes_length, SectorId.covered, be16_length, List.length_cons,
    List.length_nil]

theorem dataField_length (code : List Byte) {data : List Byte} (h : data.length = 512) :
    (dataField code data).length = 690 := by
  simp only [dataField, List.length_append, codeBytes_length, h, be16_length, List.length_cons, List.length_nil]

theorem sectorRecord_length (code : List Byte) (gap3 : Nat) (id : SectorId) :
    (sectorRecord code gap3 id).length = 716 + gap3 := by
  have hzeros : zeroBlock.length = 512 := List.length_replicate
  simp only [sectorRecord, List.length_append, List.length_replicate, addressField_length, dataField_length _ hzeros]

theorem trackRecord_length (code : List Byte) (z : Zone) (cylinder head zone : Nat) :
    (trackRecord code z cylinder head zone).length = z.spt * (716 + z.gap3) := by
  simp [trackRecord, List.length_flatMap, sectorRecord_length]

section
variable {code : List Byte} (hcode : code.length = 64)
include hcode

/-- Every group has its entry in a table of 64. -/
theorem codeBytes_mem (payload : List Byte) : ∀ b ∈ codeBytes code payload, b ∈ code := by
  intro b hb
  obtain ⟨g, hg, rfl⟩ := List.mem_map.1 hb
  have hlt : g < code.length := hcode ▸ packGroups_lt payload g hg
  rw [List.getD_eq_getElem _ _ hlt]
  exact List.getElem_mem hlt

/-- A field: three mark bytes, code bytes, TRAILER. -/
theorem recordable_field {id : Byte} (hid : id ∈ reservedBytes) (payload : List Byte) :
    ∀ b ∈ [markA, markB, id] ++ codeBytes code payload ++ [trailer], Recordable code b := by
  have hmark : ∀ b ∈ [markA, markB, id], Recordable code b := by
    simp only [List.forall_mem_cons]
    exact ⟨recordable_reserved (by decide), recordable_reserved (by decide), recordable_reserved hid, nofun⟩
  have hcodes : ∀ b ∈ codeBytes code payload, Recordable code b := fun b hb => .inr (codeBytes_mem hcode payload b hb)
  have htrailer : ∀ b ∈ [trailer], Recordable code b := List.forall_mem_singleton.2 (recordable_reserved (by decide))
  exact List.forall_mem_append.2 ⟨List.forall_mem_append.2 ⟨hmark, hcodes⟩, htrailer⟩

theorem recordable_addressField (id : SectorId) : ∀ b ∈ addressField code id, Recordable code b :=
  recordable_field hcode (by decide) _

theorem recordable_dataField (data : List Byte) : ∀ b ∈ dataField code data, Recordable code b :=
  recordable_field hcode (by decide) _

theorem recordable_sectorRecord (gap3 : Nat) (id : SectorId) : ∀ b ∈ sectorRecord code gap3 id, Recordable code b := by
  simp only [sectorRecord, List.forall_mem_append]
  exact ⟨⟨⟨⟨recordable_fill code 8, recordable_addressField hcode id⟩, recordable_fill code 6⟩,
    recordable_dataField hcode zeroBlock⟩, recordable_fill code gap3⟩

theorem recordable_track (z : Zone) (cylinder head zone n : Nat) :
    ∀ b ∈ fillTo n (trackRecord code z cylinder head zone), Recordable code b := by
  refine List.forall_mem_append.2 ⟨fun b hb => ?_, recordable_fill code _⟩
  obtain ⟨k, -, hk⟩ := List.mem_flatMap.1 hb
  exact recordable_sectorRecord hcode _ _ b hk

end

/-! ## The frames the part sends (09 R154, R162 to R165) -/

/-- SYNC, then what the CRC covers, LEN to payload, then the CRC. -/
theorem OutFrame.bytes_eq {f : OutFrame} {kind : Nat} {tag : Byte} {payload : List Byte}
    (h : f.parts = (byte kind, tag, payload)) : f.bytes =
      [byte 0xC3] ++ (be16 (payload.length + 2) ++ [byte kind] ++ [tag] ++ payload) ++
        be16 (crc16 (be16 (payload.length + 2) ++ [byte kind] ++ [tag] ++ payload)) := by
  have hbody : be16 (payload.length + 2) ++ [byte kind] ++ [tag] ++ payload = frameBody (byte kind) tag payload := by
    simp [frameBody]
  rw [hbody, OutFrame.bytes, h]
  rfl

theorem beBytes_eq (k n : Nat) : beBytes k n = (List.range k).flatMap fun i => [byte (n / 256 ^ (k - 1 - i))] :=
  List.map_eq_flatMap

/-- A four-byte field is two fields of two bytes (00_scope.md, byte order). -/
theorem be32_eq (n : Nat) : be32 n = be16 (n / 65536) ++ be16 n := by
  simp only [be32, be16, List.cons_append, List.nil_append, Nat.div_div_eq_div_mul]

/-- Settles O36: HO bit by bit, the payload of each frame kind, WDATA bit by bit, and the bytes a track may hold. -/
theorem outputSignals : Obligations.OutputSignals := by
  unfold Obligations.OutputSignals
  intro u8 u16 u24 frame reply
  have framed {f : OutFrame} {kind : Nat} {tag : Byte} {payload : List Byte}
      (h : f.parts = (byte kind, tag, payload)) : frame f kind tag payload := OutFrame.bytes_eq h
  refine ⟨fun a hho => ⟨by rw [Arbiter.hoClk, hho, Option.isSome_none], fun n => a.hoDat_idle n hho⟩,
    fun a f k b hho hb => ⟨by rw [Arbiter.hoClk, hho, Option.isSome_some], ?start, fun j hj => ?bit⟩,
    ?notice, fun tag => framed rfl, ?done, ?event, fun tag index data page => framed rfl, ?reply,
    Codec.wdataLevel_off, fun c k hgate j hj => ⟨fun b hb => ?recorded, fun hb => ?fill⟩,
    ?track⟩
  case start => exact (Arbiter.hoDat_byte hho hb (Nat.succ_pos 8)).trans (laneByte_start b)
  case bit =>
    rw [Nat.add_assoc, Arbiter.hoDat_byte hho hb (show 1 + j < 9 by omega), laneByte_bit b hj]
  case notice =>
    rintro ⟨kind, start, generation, credits, tags⟩
    refine framed (congrArg (0x80, 0, ·) (congrArg₂ (· ++ ·) ?_ (beBytes_eq 32 tags.toNat)))
    cases kind <;> cases start <;> rfl
  case done =>
    rintro tag ⟨status, blocksDone, retriesUsed, firstFailing, failing⟩
    refine framed (congrArg (0x82, tag, ·) (congrArg₂ (· ++ ·) (congrArg₂ (· ++ ·) ?_ ?_) ?_))
    · cases status <;> rfl
    · cases firstFailing <;> rfl
    · cases failing with
      | none => rfl
      | some set => exact be32_eq set.toNat
  case event =>
    intro seq kind count detail
    refine framed (congrArg (0x84, seq, ·) (congrArg (· ++ be24 detail.toNat) ?_))
    cases kind <;> rfl
  case reply =>
    rintro ⟨seq, body⟩
    cases body with
    | rejected x =>
      obtain ⟨reason, index⟩ := x
      cases reason <;> exact framed rfl
    | _ => exact framed rfl
  case recorded => rw [Codec.wdataLevel_on hgate k hj, Codec.sentByte_recorded hb]
  case fill =>
    have hones : ∀ j < 8, (0xFF : Byte).getLsbD (7 - j) = true := by decide
    rw [Codec.wdataLevel_on hgate k hj, Codec.sentByte_fill hb, hones j hj]
  case track =>
    intro code data id z cylinder head zone n hcode hdata allowed
    exact ⟨addressField_length code id, dataField_length code hdata, sectorRecord_length code z.gap3 id,
      trackRecord_length code z cylinder head zone, recordable_dataField hcode data,
      recordable_track hcode z cylinder head zone n⟩

end Sys2Proof.Machine
end

section
/-!
PROOFS. The two reset lines (09 R168): the bit cells taken before an LRST (08 R148), and what the assertion of each line
leaves of every block.
-/

namespace Sys2Proof.Machine

/-! ## Bit cells taken before an LRST (01 R11; 08 R148) -/

section
variable {s : State}

theorem positionFaultReport_unheld (h : ∀ c, s.pos.state ≠ .idle c) : positionFaultReport s = s := by
  unfold positionFaultReport
  cases hp : s.pos.state with
  | idle c => exact absurd hp (h c)
  | _ => rfl

theorem addressReport_misplaced {op : Op} (ho : s.engine.op = some op) (hd : op.stage ≠ .drain) {id : SectorId}
    (h : id.cylinder ≠ op.target.cylinder ∨ id.head ≠ op.target.head) :
    addressReport id s = positionFaultReport s := by
  simp [addressReport, Engine.working_some _ op ho hd, Op.misplaces, h]

/-- No report is made of an address on the cylinder and head that the engine at work is for. -/
theorem addressReport_onTrack {id : SectorId} (h : ∀ op, s.engine.op = some op → op.stage ≠ .drain →
    id.cylinder = op.target.cylinder ∧ id.head = op.target.head) : addressReport id s = s := by
  cases ho : s.engine.op with
  | none => simp [addressReport, Engine.working, ho]
  | some op =>
    by_cases hd : op.stage = .drain
    · simp [addressReport, Engine.working_drain _ op ho hd]
    · obtain ⟨hc, hh⟩ := h op ho hd
      simp [addressReport, Engine.working_some _ op ho hd, Op.misplaces, hc, hh]

theorem addressReport_unheld (h : ∀ c, s.pos.state ≠ .idle c) (id : SectorId) : addressReport id s = s := by
  unfold addressReport
  split
  · rfl
  · rw [positionFaultReport_unheld h, ite_self]

theorem takenBefore_noHunt (h : ∀ target action, s.codec.mode ≠ .hunt target action) (bits : List Bool) :
    takenBefore bits s = s := by
  unfold takenBefore
  cases hm : s.codec.mode with
  | hunt target action => exact absurd hm (h target action)
  | _ => rfl

end

/-- The bit cells do what the statement's relation says of them. -/
theorem TakenBeforeReset.takenBefore_eq {s v : State} {bits : List Bool} (h : TakenBeforeReset s bits v) :
    takenBefore bits s = v := by
  cases h with
  | noHunt hm => exact takenBefore_noHunt hm bits
  | unended target action reader hm hread => simp only [takenBefore, hm, hread]
  | decodeFault target action hm hread =>
    have htaken : takenBefore bits s = s.countDecodeFault := by simp only [takenBefore, hm, hread]
    exact htaken
  | badCheck target action hm hread =>
    have htaken : takenBefore bits s = s.countAddrError := by simp only [takenBefore, hm, hread]
    exact htaken
  | onTrack target id action hm hread hon =>
    simp only [takenBefore, hm, hread]
    obtain hid | htrack := hon
    · rw [if_pos hid]
    · rw [addressReport_onTrack htrack, ite_self]
  | reported target id action op c hm hread hid ho hd hmis hp =>
    simp only [takenBefore, hm, hread, if_neg hid]
    rw [addressReport_misplaced ho hd hmis, positionFaultReport_idle s c hp]
  | unheld target action hm hread hp =>
    obtain ⟨id, hread⟩ := hread
    simp only [takenBefore, hm, hread, addressReport_unheld hp id, ite_self]

theorem takenBeforeReset_nil (s : State) : TakenBeforeReset s [] s := by
  cases hm : s.codec.mode with
  | hunt target action => exact .unended target action _ hm rfl
  | _ => exact .noHunt fun target action h => by simp [hm] at h

/-- Only the codec's counters, the position and what an event touches may have changed. -/
structure KeptBeforeReset (s v : State) : Prop where
  lines : v.lines = s.lines
  link : v.link = s.link
  queue : v.queue = s.queue
  tables : v.tables = s.tables
  engine : v.engine = s.engine
  spindle : v.spindle = s.spindle
  pins : v.pins = s.pins
  pending : v.pending = s.pending

theorem TakenBeforeReset.kept {s v : State} {bits : List Bool} (h : TakenBeforeReset s bits v) :
    KeptBeforeReset s v := by
  cases h with
  | reported =>
    exact ⟨raiseEvent_lines .., raiseEvent_link .., raiseEvent_queue .., raiseEvent_tables .., raiseEvent_engine ..,
      raiseEvent_spindle .., raiseEvent_pins .., raiseEvent_pending ..⟩
  | _ => exact ⟨rfl, rfl, rfl, rfl, rfl, rfl, rfl, rfl⟩

/-! ## What an LRST leaves of the positioner (08 R152) -/

theorem Positioner.linkReset_rest (p : Positioner) :
    p.linkReset = { p with held := none, state := p.linkReset.state } := by
  unfold Positioner.linkReset
  split <;> rfl

/-- A seek in STEPPING ends at the even step position it is at or steps to next. -/
theorem Positioner.linkReset_stepping {p : Positioner} {x target : Nat} (h : p.state = .stepping x target) :
    ∃ c, p.linkReset.state = .stepping x c ∧
      (x = 2 * c ∨ (x < 2 * target ∧ x + 1 = 2 * c) ∨ (2 * target < x ∧ x = 2 * c + 1)) := by
  refine ⟨if x % 2 = 0 then x / 2 else if x < 2 * target then (x + 1) / 2 else (x - 1) / 2, ?_, ?_⟩
  · simp only [Positioner.linkReset, h]
  · split_ifs <;> omega

theorem Positioner.linkReset_else {p : Positioner} (h : ∀ x target, p.state ≠ .stepping x target) :
    p.linkReset.state = p.state := by
  cases hp : p.state with
  | stepping x target => exact absurd hp (h x target)
  | _ => simp only [Positioner.linkReset, hp]

/-! ## The assertion (09 R168) -/

theorem linkResetKind_some (seed : NoticeSeed) : linkResetKind (some seed) = seed.kind := by
  obtain ⟨kind, tags⟩ := seed
  cases kind <;> rfl

theorem exec_lrst {s v : State} {bits : List Bool} (hlrst : s.lines.lrst = false) (h : takenBefore bits s = v) :
    exec (.lrst bits) s = .next (assertLrst v) := by
  subst h
  exact if_neg (by simp [hlrst])

/-- The NOTICE after an LRST has the kind of the NOTICE it overtakes, and both their tags (09 R169). -/
theorem assertLrst_lines {s v : State} (h : KeptBeforeReset s v) : (assertLrst v).lines =
    ⟨s.lines.reset, true, some ⟨linkResetKind s.lines.seed, discardedTags s⟩⟩ := by
  simp only [assertLrst, State.setLines_lines, discardedTags, h.lines, h.queue]

/-- Settles O56: RESET by what it builds; LRST block by block from the state that the bit cells leave. -/
theorem resetLinesAct : Obligations.ResetLinesAct := by
  intro s tags
  refine ⟨fun hreset => if_neg (by simp [hreset]), takenBeforeReset_nil s, fun bits v hlrst htaken => ?_⟩
  have kept := htaken.kept
  refine ⟨linkResetKind s.lines.seed, assertLrst v, exec_lrst hlrst htaken.takenBefore_eq, assertLrst_lines kept,
    fun hseed => by rw [hseed]; rfl, fun seed hseed => by rw [hseed, linkResetKind_some],
    ?queue, rfl, ?link, ?engine, rfl, kept.spindle, kept.pins, ?tables, rfl, rfl, kept.pending,
    v.pos.linkReset_rest, fun x target => Positioner.linkReset_stepping, Positioner.linkReset_else⟩
  case queue => exact congrArg (fun q : Queue => { Queue.reset with refused := q.refused }) kept.queue
  case link => exact congrArg (fun l : Link => { l with rx := .hunt }) kept.link
  case engine => exact congrArg (fun e : Engine => { e with op := none }) kept.engine
  case tables => exact congrArg (fun t : Tables => { t with staging := .reset, session := none }) kept.tables

end Sys2Proof.Machine
end

section
/-!
PROOFS. What every command keeps of the table store, the reply queue and the pages (10 R171, R181; 09 R158; 04 R54). All
but a map change, a management frame and a reset leave the three as they are, which is an equation of `storeOf`; the
others keep the invariant.
-/

namespace Sys2Proof.Machine

/-! ## What `StoreSound` reads -/

/-- The table store, the number of REPLYs unsent and the number of pages. -/
structure Store where
  tables : Tables
  replies : Nat
  pages : Nat

def storeOf (s : State) : Store := ⟨s.tables, s.arb.replies.length, s.buffer.pages.length⟩

/-- CONFIGURED exactly when the generation is not 0 (10 R171). -/
def Tables.Flagged (t : Tables) : Prop := t.active = none ↔ t.generation = 0

structure Store.Sound (a : Store) : Prop where
  flagged : a.tables.Flagged
  replies : a.replies ≤ 4
  pages : a.pages = 32

theorem storeSound_iff (s : State) : StoreSound s ↔ (storeOf s).Sound :=
  ⟨fun ⟨hc, hr, hp⟩ => ⟨hc, hr, hp⟩, fun ⟨hc, hr, hp⟩ => ⟨hc, hr, hp⟩⟩

theorem pages_eq_storeOf (s : State) : s.buffer.pages.length = (storeOf s).pages := rfl

theorem replies_eq_storeOf (s : State) : s.arb.replies.length = (storeOf s).replies := rfl

/-! ## Replacing one block's state -/

section
variable (s : State)

@[simp] theorem storeOf_setLines (x : Lines) : storeOf (s.setLines x) = storeOf s := by simp [storeOf]
@[simp] theorem storeOf_setLink (x : Link) : storeOf (s.setLink x) = storeOf s := by simp [storeOf]
@[simp] theorem storeOf_setQueue (x : Queue) : storeOf (s.setQueue x) = storeOf s := by simp [storeOf]
@[simp] theorem storeOf_setEngine (x : Engine) : storeOf (s.setEngine x) = storeOf s := by simp [storeOf]
@[simp] theorem storeOf_setCodec (x : Codec) : storeOf (s.setCodec x) = storeOf s := by simp [storeOf]
@[simp] theorem storeOf_setSpindle (x : Spindle) : storeOf (s.setSpindle x) = storeOf s := by simp [storeOf]
@[simp] theorem storeOf_setPos (x : Positioner) : storeOf (s.setPos x) = storeOf s := by simp [storeOf]
@[simp] theorem storeOf_setEvents (x : Events) : storeOf (s.setEvents x) = storeOf s := by simp [storeOf]
@[simp] theorem storeOf_setPins (x : Pins) : storeOf (s.setPins x) = storeOf s := by simp [storeOf]
@[simp] theorem storeOf_setPending (x : List Instr) : storeOf (s.setPending x) = storeOf s := by simp [storeOf]

@[simp] theorem storeOf_setBuffer (x : Buffer) :
    storeOf (s.setBuffer x) = { storeOf s with pages := x.pages.length } := rfl

@[simp] theorem storeOf_setArb (x : Arbiter) :
    storeOf (s.setArb x) = { storeOf s with replies := x.replies.length } := rfl

@[simp] theorem storeOf_setTables (x : Tables) : storeOf (s.setTables x) = { storeOf s with tables := x } := rfl

end

/-! ## Numbers of pages (04 R54) -/

@[simp] theorem Buffer.setPage_pages_length (b : Buffer) (p : Nat) (f : Page → Page) :
    (b.setPage p f).pages.length = b.pages.length := modifyAt_length _ _ _

@[simp] theorem Buffer.setUse_pages_length (b : Buffer) (p : Nat) (u : PageUse) :
    (b.setUse p u).pages.length = b.pages.length := b.setPage_pages_length _ _

@[simp] theorem Buffer.release_pages_length (b : Buffer) (tag : Tag) (which : PageUse → Bool) :
    (b.release tag which).pages.length = b.pages.length := List.length_map _

@[simp] theorem Buffer.updateWrite_pages (b : Buffer) (tag : Tag) (f : WriteData → WriteData) :
    (b.updateWrite tag f).pages = b.pages := rfl

/-! ## Frames, events, pages and DONE -/

section
variable (s : State)

@[simp] theorem storeOf_arbitrate : storeOf (arbitrate s) = storeOf s := by simp [storeOf]

@[simp] theorem storeOf_freeLane : storeOf (freeLane s) = storeOf s := by simp [freeLane, replies_eq_storeOf]

@[simp] theorem storeOf_produceReply (seq : Byte) (body : ReplyBody) :
    storeOf (produceReply seq body s) = { storeOf s with replies := (storeOf s).replies + 1 } := by
  simp [produceReply, replies_eq_storeOf]

@[simp] theorem storeOf_produceDoneCall (f : DoneCall) : storeOf (produceDoneCall f s) = storeOf s := by
  simp [produceDoneCall, replies_eq_storeOf]

@[simp] theorem storeOf_offerBlock (p : Nat) : storeOf (offerBlock p s) = storeOf s := by
  simp [offerBlock, replies_eq_storeOf]

@[simp] theorem storeOf_offerEvent : storeOf (offerEvent s) = storeOf s := by
  unfold offerEvent
  split <;> simp

@[simp] theorem storeOf_raiseEvent (k : EventKind) (detail : BitVec 24) :
    storeOf (raiseEvent k detail s) = storeOf s := by
  unfold raiseEvent
  split <;> simp

@[simp] theorem storeOf_setReqState (tag : Tag) (st : ReqState) : storeOf (s.setReqState tag st) = storeOf s :=
  storeOf_setQueue s _

@[simp] theorem storeOf_leaveAwaitData (tag : Tag) : storeOf (s.leaveAwaitData tag) = storeOf s := by
  simp [State.leaveAwaitData, replies_eq_storeOf, pages_eq_storeOf]

@[simp] theorem storeOf_afterGrant (r : Record) : storeOf (afterGrant r s) = storeOf s := by
  unfold afterGrant
  split <;> simp [pages_eq_storeOf]

@[simp] theorem storeOf_grant : storeOf (grant s) = storeOf s := by
  unfold grant
  generalize s.buffer.fifo.length = fuel
  induction fuel generalizing s with
  | zero => rfl
  | succ fuel ih =>
    unfold grantLoop
    split
    · rfl
    · split
      · rfl
      · split
        · rfl
        · simp [ih, takePages, pages_eq_storeOf]

@[simp] theorem storeOf_produceDone (tag : Tag) (report : DoneReport) :
    storeOf (produceDone tag report s) = storeOf s := by
  simp [produceDone, pages_eq_storeOf]

end

/-! ## The codec, the spindle and the positioner -/

section
variable (s : State)

@[simp] theorem storeOf_codecIdle : storeOf s.codecIdle = storeOf s := storeOf_setCodec s _

@[simp] theorem storeOf_codecArm (target : SectorId) (action : Action) :
    storeOf (codecArm target action s) = storeOf s := by simp [storeOf]

@[simp] theorem storeOf_codecTrackWrite (c h z : Nat) : storeOf (codecTrackWrite c h z s) = storeOf s := by
  simp [storeOf]

@[simp] theorem storeOf_codecStop : storeOf (codecStop s) = storeOf s := by simp [storeOf]

@[simp] theorem storeOf_requestSpeed (rpm zone : Nat) : storeOf (requestSpeed rpm zone s) = storeOf s := by
  simp [storeOf]

@[simp] theorem storeOf_requestStop : storeOf (requestStop s) = storeOf s := by simp [storeOf]

@[simp] theorem storeOf_takeSeek (c : Nat) : storeOf (takeSeek c s).1 = storeOf s := by simp [storeOf]

@[simp] theorem storeOf_takeRecal : storeOf (takeRecal s) = storeOf s := by simp [storeOf]

@[simp] theorem storeOf_askPosition (c : Nat) : storeOf (askPosition c s).1 = storeOf s := by simp [storeOf]

@[simp] theorem storeOf_finishMovement (r : PosReport) : storeOf (finishMovement r s).1 = storeOf s := by
  simp [storeOf]

@[simp] theorem storeOf_positionFaultReport : storeOf (positionFaultReport s) = storeOf s := by
  unfold positionFaultReport
  split <;> simp

@[simp] theorem storeOf_raiseGrowth (lba zone : Nat) : storeOf (raiseGrowth lba zone s) = storeOf s := by
  unfold raiseGrowth
  dsimp only
  split <;> simp

@[simp] theorem storeOf_stepExpiry (trk0 : Bool) : storeOf (stepExpiry trk0 s).1 = storeOf s := by
  unfold stepExpiry
  cases s.pos.state with
  | stepping => dsimp only; split <;> simp
  | recalibrating => dsimp only; split <;> [skip; split] <;> simp
  | unknown | idle | settling => rfl

@[simp] theorem storeOf_settleExpiry (trk0 : Bool) : storeOf (settleExpiry trk0 s).1 = storeOf s := by
  unfold settleExpiry
  cases s.pos.state with
  | settling => dsimp only; split <;> simp
  | unknown | idle | stepping | recalibrating => rfl

@[simp] theorem storeOf_keepDecoded (action : Action) (data : List Byte) :
    storeOf (keepDecoded action data s) = storeOf s := by simp [storeOf]

end

/-! ## The media engine, short of a map change -/

section
variable (s : State) (op : Op)

@[simp] theorem storeOf_setOp : storeOf (s.setOp op) = storeOf s := storeOf_setEngine s _

@[simp] theorem storeOf_finish (status : Status) (failing : Option (BitVec 32)) :
    storeOf (finish op status failing s) = storeOf s := by
  unfold finish settlePages
  cases op.req.isRead with
  | false => simp
  | true => dsimp only; split <;> simp [enterDrain, pages_eq_storeOf]

@[simp] theorem storeOf_endWith (status : Status) : storeOf (endWith op status s) = storeOf s :=
  storeOf_finish s op status none

@[simp] theorem storeOf_armPass : storeOf (armPass op s) = storeOf s := by simp [armPass]

@[simp] theorem storeOf_giveTrackWrite : storeOf (giveTrackWrite op s) = storeOf s := by simp [giveTrackWrite]

@[simp] theorem storeOf_suspendPass : storeOf (suspendPass op s) = storeOf s := by simp [suspendPass]

@[simp] theorem storeOf_startAccess : storeOf (startAccess op s) = storeOf s := by
  unfold startAccess
  cases op.purpose with
  | read | discard | compare | formatVerify => simp
  | write | trackWrite => cases s.pins.wprot <;> simp

@[simp] theorem storeOf_closeIfReady : storeOf (closeIfReady op s) = storeOf s := by
  unfold closeIfReady
  split <;> simp

@[simp] theorem storeOf_openBoth : storeOf (openBoth op s) = storeOf s := by simp [openBoth, askSpeed]

@[simp] theorem storeOf_reopenPosition : storeOf (reopenPosition op s) = storeOf s := by simp [reopenPosition]

@[simp] theorem storeOf_startTrial (chain : Chain) : storeOf (startTrial op chain s) = storeOf s := by
  unfold startTrial
  split <;> simp

@[simp] theorem storeOf_startChain : storeOf (startChain op s) = storeOf s := storeOf_startTrial _ _ _

@[simp] theorem storeOf_translateBlock (p : Purpose) : storeOf (translateBlock p op s) = storeOf s := by
  unfold translateBlock
  dsimp only
  cases op.req with
  | write | reassign => dsimp only; split <;> simp
  | read | verify | format | recal | spin => simp

@[simp] theorem storeOf_completeBlock : storeOf (completeBlock op s) = storeOf s := by
  unfold completeBlock
  dsimp only
  split
  · simp
  · split <;> simp

@[simp] theorem storeOf_readFailed (why : PassFailure) : storeOf (readFailed why op s) = storeOf s := by
  unfold readFailed
  dsimp only
  split <;> simp

@[simp] theorem storeOf_nextFormatSector (k : Nat) : storeOf (nextFormatSector k op s) = storeOf s := by
  unfold nextFormatSector
  split <;> simp

@[simp] theorem storeOf_formatReadFailed (k : Nat) : storeOf (formatReadFailed k op s) = storeOf s :=
  storeOf_nextFormatSector _ _ _

@[simp] theorem storeOf_trackOverran : storeOf (trackOverran op s) = storeOf s := by
  unfold trackOverran
  dsimp only
  split <;> simp

@[simp] theorem storeOf_deliverPage : storeOf (deliverPage op s) = storeOf s := by
  simp [deliverPage, pages_eq_storeOf]

@[simp] theorem storeOf_sectorWritten : storeOf (sectorWritten op s) = storeOf s := by
  unfold sectorWritten
  split <;> simp

@[simp] theorem storeOf_trackWritten : storeOf (trackWritten op s) = storeOf s := by
  unfold trackWritten
  split <;> simp

@[simp] theorem storeOf_positionFault (seen : Bool) : storeOf (positionFault seen op s) = storeOf s := by
  unfold positionFault
  dsimp only
  cases seen <;> split <;> simp

@[simp] theorem storeOf_resumePass : storeOf (resumePass op s) = storeOf s := by
  unfold resumePass
  cases op.purpose <;> simp

@[simp] theorem storeOf_gateStopped (cause : GateCause) : storeOf (gateStopped cause op s) = storeOf s := by
  cases cause <;> simp [gateStopped]

@[simp] theorem storeOf_beginOp (tag : Tag) (req : Request) : storeOf (beginOp tag req s) = storeOf s := by
  unfold beginOp
  cases req with
  | read | write | verify | reassign => simp
  | format => unfold beginFormat; dsimp only; split <;> simp
  | recal => simp
  | spin mode =>
    unfold beginSpinUp beginSpinDown askSpeed
    dsimp only
    split <;> split <;> simp

end

/-! ## Selections (05 R78) -/

@[simp] theorem storeOf_schedule (s : State) : storeOf (schedule s) = storeOf s := by
  unfold schedule
  generalize s.queue.records.length = fuel
  induction fuel generalizing s with
  | zero => rfl
  | succ fuel ih =>
    unfold scheduleLoop
    split
    · rfl
    · split
      · rfl
      · simp [ih]

@[simp] theorem storeOf_afterEngine (s t : State) : storeOf (afterEngine s t) = storeOf t := by
  unfold afterEngine
  split <;> simp

/-! ## Map changes (03 R48, R49, R51) -/

/-- The generation never advances to 0. -/
theorem nextGeneration_ne_zero (g : BitVec 16) : nextGeneration g ≠ 0#16 := by
  unfold nextGeneration
  split
  · decide
  · bv_omega

theorem Tables.mapChange_flagged {t : Tables} (h : t.Flagged) (map : List Defect) (slots : List ZoneSlots) :
    (t.mapChange map slots).Flagged := by
  cases ha : t.active with
  | none => simpa only [Tables.mapChange, ha] using h
  | some a => simp [Tables.Flagged, t.mapChange_eq a ha, nextGeneration_ne_zero]

theorem Tables.retireSlot_flagged {t : Tables} (h : t.Flagged) (zone slot : Nat) : (t.retireSlot zone slot).Flagged :=
  mapChange_flagged h _ _

theorem Tables.remapTo_flagged {t : Tables} (h : t.Flagged) (lba zone slot : Nat) :
    (t.remapTo lba zone slot).Flagged := by
  unfold Tables.remapTo
  split <;> exact mapChange_flagged h _ _

theorem Store.Sound.withTables {a : Store} (h : a.Sound) {t : Tables} (ht : t.Flagged) :
    { a with tables := t }.Sound := ⟨ht, h.replies, h.pages⟩

section
variable (s : State) (op : Op) (h : (storeOf s).Sound)
include h

@[simp] theorem slotFailed_sound (chain : Chain) : (storeOf (slotFailed op chain s)).Sound := by
  have retired : ({ storeOf s with tables := s.tables.retireSlot chain.zone (chain.slot.getD 0) } : Store).Sound :=
    h.withTables (Tables.retireSlot_flagged h.flagged _ _)
  unfold slotFailed
  dsimp only
  split
  · simp [h]
  · split <;> simpa using retired

@[simp] theorem slotSucceeded_sound (chain : Chain) : (storeOf (slotSucceeded op chain s)).Sound := by
  have remapped :
      ({ storeOf s with tables := s.tables.remapTo chain.lba chain.zone (chain.slot.getD 0) } : Store).Sound :=
    h.withTables (Tables.remapTo_flagged h.flagged _ _ _)
  unfold slotSucceeded
  split
  · simp [h]
  · simpa using remapped

@[simp] theorem writeFailed_sound (why : PassFailure) : (storeOf (writeFailed why op s)).Sound := by
  unfold writeFailed
  dsimp only
  split
  · cases s.pins.wprot <;> simp [h]
  · cases op.chain with
    | some chain => simp [h]
    | none => dsimp only; split <;> simp [h]

@[simp] theorem passFailed_sound (why : PassFailure) : (storeOf (passFailed why op s)).Sound := by
  unfold passFailed
  cases op.purpose <;> simp [h]

@[simp] theorem passGood_sound : (storeOf (passGood op s)).Sound := by
  unfold passGood
  cases op.purpose with
  | compare => cases op.chain <;> simp [h]
  | read | discard | formatVerify | write | trackWrite => simp [h]

@[simp] theorem huntExpires_sound : (storeOf (huntExpires op s)).Sound := by
  unfold huntExpires
  cases s.codec.mode <;> simp [h]

end

/-! ## Reports to the engine -/

section
variable (s : State)

@[simp] theorem storeOf_positionReport (r : PosReport) : storeOf (positionReport r s) = storeOf s := by
  unfold positionReport
  split
  · rfl
  · cases r with
    | settled | seekFault | refused | recalFailed => dsimp only; split <;> simp
    | recalDone => dsimp only; split <;> [skip; split] <;> simp

@[simp] theorem storeOf_positionReport? (r : Option PosReport) : storeOf (positionReport? r s) = storeOf s := by
  cases r <;> simp [positionReport?]

@[simp] theorem storeOf_lockedReport : storeOf (lockedReport s) = storeOf s := by
  unfold lockedReport
  split
  · rfl
  · split
    · split <;> simp
    · rfl

@[simp] theorem storeOf_lockLostReport : storeOf (lockLostReport s) = storeOf s := by
  unfold lockLostReport
  split
  · rfl
  · split <;> simp

@[simp] theorem storeOf_timeoutReport : storeOf (timeoutReport s) = storeOf s := by
  unfold timeoutReport
  split
  · rfl
  · split <;> simp

@[simp] theorem storeOf_stoppedReport : storeOf (stoppedReport s) = storeOf s := by
  unfold stoppedReport
  split
  · rfl
  · split <;> simp

@[simp] theorem storeOf_addressSeen (id : SectorId) : storeOf (addressSeen id s) = storeOf s := by
  unfold addressSeen
  split
  · rfl
  · split <;> simp

@[simp] theorem storeOf_addressReport (id : SectorId) : storeOf (addressReport id s) = storeOf s := by
  unfold addressReport
  split
  · rfl
  · split <;> simp

@[simp] theorem storeOf_addressMatched : storeOf (addressMatched s) = storeOf s := by
  unfold addressMatched
  split
  · rfl
  · split <;> simp

@[simp] theorem storeOf_revolutionTold : storeOf (revolutionTold s) = storeOf s := storeOf_setEngine s _

@[simp] theorem storeOf_addressEnd (target : SectorId) (action : Action) (r : AddressRead) :
    storeOf (addressEnd target action r s) = storeOf s := by
  cases r with
  | more | fault | badCheck => exact storeOf_setCodec s _
  | good id => dsimp only [addressEnd]; split <;> simp [matchTarget, State.setReader]

@[simp] theorem storeOf_becomeLocked : storeOf (becomeLocked s) = storeOf s := by simp [becomeLocked, lockSpindle]

variable (h : (storeOf s).Sound)
include h

@[simp] theorem codecReport_sound (r : CodecReport) : (storeOf (codecReport r s)).Sound := by
  unfold codecReport
  split
  · exact h
  · cases r with
    | read o => cases o <;> simp [h]
    | written | trackDone | refused | torn | abandoned => simp [h]

@[simp] theorem dataEnd_sound (action : Action) (r : DataRead) : (storeOf (dataEnd action r s)).Sound := by
  cases r <;> simp [dataEnd, endDecodeFault, State.countDecodeFault, State.setReader, h]

@[simp] theorem gapEnd_sound (target : SectorId) (ref : DataRef) : (storeOf (gapEnd target ref s)).Sound := by
  unfold gapEnd
  split <;> simp [h]

@[simp] theorem dropGate_sound : (storeOf (dropGate s)).Sound := by
  unfold dropGate
  split <;> simp [h]

@[simp] theorem senseChange_sound (active : Bool) : (storeOf (senseChange active s)).Sound := by
  cases active <;> simp [senseChange, h]

@[simp] theorem becomeLost_sound (detail : BitVec 24) : (storeOf (becomeLost detail s)).Sound := by
  unfold becomeLost codecLockLost
  split <;> simp [loseSpindle, h]

@[simp] theorem codecPulse_sound (ns : Nat) : (storeOf (codecPulse ns s)).Sound := by
  unfold codecPulse
  split
  · split <;> simp [h]
  · dsimp only
    split
    · simp [h]
    · split <;> simp [h]
  all_goals exact h

theorem closeRevolution_sound (m : Nat) : (storeOf (closeRevolution m s)).Sound := by
  rw [closeRevolution_eq m s _ rfl, storeOf_revolutionTold]
  split
  · simp [h]
  · split <;> simp [h]

@[simp] theorem spindlePulse_sound (ns : Nat) : (storeOf (spindlePulse ns s)).Sound := by
  unfold spindlePulse
  cases s.spindle.state with
  | stopped | stopping => exact h
  | starting | locked | retargeting | lost =>
    dsimp only
    split
    · exact h
    · exact closeRevolution_sound _ (by exact h) _

end

/-! ## Frames of the host -/

section
variable (s : State)

@[simp] theorem storeOf_countBadCrc : storeOf (countBadCrc s) = storeOf s := by simp [countBadCrc]

@[simp] theorem storeOf_countBadLength : storeOf (countBadLength s) = storeOf s := by simp [countBadLength]

@[simp] theorem storeOf_countOverrun : storeOf (countOverrun s) = storeOf s := by simp [countOverrun]

@[simp] theorem storeOf_accept (tag : Tag) (req : Request) : storeOf (accept tag req s) = storeOf s := by
  unfold accept enterWaiting
  dsimp only
  split
  · simp
  · split <;> simp [pages_eq_storeOf]

@[simp] theorem storeOf_takeRequest (tag : Tag) (req : Request) : storeOf (takeRequest tag req s) = storeOf s := by
  unfold takeRequest
  split
  · rfl
  · split
    · exact storeOf_setQueue s _
    · simp

@[simp] theorem storeOf_fillBlock (tag : Tag) (index : Nat) (data : List Byte) :
    storeOf (fillBlock tag index data s) = storeOf s := by
  unfold fillBlock
  dsimp only
  split <;> simp [pages_eq_storeOf]

@[simp] theorem storeOf_takeBlock (tag : Tag) (index : Byte) (data : List Byte) :
    storeOf (takeBlock tag index data s) = storeOf s := by
  unfold takeBlock bufferBlock
  split
  · rfl
  · split
    · split
      · dsimp only
        split <;> simp [writeReady]
      · simp [discardBlock, pages_eq_storeOf]
    · simp

end

/-! ## Management frames (09 R158; 10 R173 to R186) -/

@[simp] theorem storeOf_clearCounters (s : State) : storeOf s.clearCounters = storeOf s := rfl

@[simp] theorem storeOf_removeWaiting (r : Record) (s : State) : storeOf (removeWaiting r s) = storeOf s := by
  unfold removeWaiting
  cases r.state <;> simp [pages_eq_storeOf]

@[simp] theorem storeOf_markAbort (s : State) : storeOf (markAbort s) = storeOf s := by
  unfold markAbort
  split <;> simp

theorem Tables.commitSet_flagged (t : Tables) (a : ActiveSet) (g : Staging) :
    { t.commitSet a with staging := g }.Flagged := by
  simp [Tables.Flagged, Tables.commitSet, Tables.writeImage, nextGeneration_ne_zero]

/-- A REPLY that finds fewer than four unsent is at most the fourth. -/
theorem Store.Sound.replied {a : Store} (h : a.Sound) (hr : a.replies < 4) {t : Tables} (ht : t.Flagged) :
    (⟨t, a.replies + 1, a.pages⟩ : Store).Sound := ⟨ht, hr, h.pages⟩

section
variable (s : State) (h : (storeOf s).Sound)
include h

theorem manage_sound (act : State → State) (ha : (storeOf s).replies < 4 → (storeOf (act s)).Sound) :
    (storeOf (manage act s)).Sound := by
  unfold manage
  split
  · exact h
  · split
    · exact ha ‹_›
    · simp [h]

variable (hr : (storeOf s).replies < 4)
include hr

theorem produceReply_sound (seq : Byte) (body : ReplyBody) : (storeOf (produceReply seq body s)).Sound :=
  storeOf_produceReply s seq body ▸ h.replied hr h.flagged

theorem produceReply_setTables_sound (seq : Byte) (body : ReplyBody) (t : Tables) (ht : t.Flagged) :
    (storeOf (produceReply seq body (s.setTables t))).Sound :=
  storeOf_produceReply _ seq body ▸ h.replied hr ht

theorem loadOpen_sound (seq table : Byte) : (storeOf (loadOpen seq table s)).Sound := by
  unfold loadOpen
  split
  · exact produceReply_sound s h hr _ _
  · split
    · exact produceReply_sound s h hr _ _
    · exact produceReply_setTables_sound s h hr _ _ _ h.flagged

theorem stopLoad_sound (seq : Byte) (id : TableId) (r : Rejection) : (storeOf (stopLoad seq id r s)).Sound := by
  unfold stopLoad
  dsimp only
  split <;> exact produceReply_setTables_sound s h hr _ _ _ h.flagged

theorem loadPut_sound (seq : Byte) (bytes : List Byte) : (storeOf (loadPut seq bytes s)).Sound := by
  unfold loadPut
  split
  · exact produceReply_sound s h hr _ _
  · dsimp only
    split
    · exact stopLoad_sound s h hr _ _ _
    · split
      · exact stopLoad_sound s h hr _ _ _
      · exact produceReply_setTables_sound s h hr _ _ _ h.flagged

theorem loadClose_sound (seq : Byte) : (storeOf (loadClose seq s)).Sound := by
  unfold loadClose
  split
  · exact produceReply_sound s h hr _ _
  · dsimp only
    split
    · exact produceReply_setTables_sound s h hr _ _ _ h.flagged
    · split <;> exact produceReply_setTables_sound s h hr _ _ _ h.flagged

theorem loadDrop_sound (seq table : Byte) : (storeOf (loadDrop seq table s)).Sound := by
  unfold loadDrop
  split
  · exact produceReply_sound s h hr _ _
  · exact produceReply_setTables_sound s h hr _ _ _ h.flagged

/-- A COMMIT that installs leaves an active set and a generation that is not 0 (10 R180, R181). -/
theorem commit_sound (seq : Byte) : (storeOf (commit seq s)).Sound := by
  unfold commit
  split
  · exact produceReply_sound s h hr _ _
  · split
    · exact produceReply_sound s h hr _ _
    · split
      · split
        · exact produceReply_sound s h hr _ _
        · rw [installSet, storeOf_raiseEvent]
          exact produceReply_setTables_sound s h hr _ _ _ (Tables.commitSet_flagged _ _ _)
      · exact produceReply_sound s h hr _ _

theorem tableGet_sound (seq table first : Byte) : (storeOf (tableGet seq table first s)).Sound := by
  unfold tableGet
  split <;> exact produceReply_sound s h hr _ _

/-- WIPE clears the active set and the generation together (10 R185). -/
theorem wipe_sound (seq : Byte) : (storeOf (wipe seq s)).Sound := by
  unfold wipe
  split
  · exact produceReply_setTables_sound s h hr _ _ _ (iff_of_true rfl rfl)
  · exact produceReply_sound s h hr _ _

theorem query_sound (seq flags : Byte) : (storeOf (query seq flags s)).Sound := by
  unfold query
  dsimp only
  split
  · exact produceReply_sound s h hr _ _
  · split <;> exact produceReply_sound s h hr _ _

theorem eventSet_sound (seq : Byte) (mask : BitVec 16) : (storeOf (eventSet seq mask s)).Sound := by
  unfold eventSet
  split
  · exact produceReply_sound s h hr _ _
  · exact produceReply_sound (s.setEvents (s.events.setMask mask)) h hr _ _

theorem eventAck_sound (seq acked : Byte) : (storeOf (eventAck seq acked s)).Sound := by
  unfold eventAck
  split
  · rw [storeOf_offerEvent]
    exact produceReply_sound (s.setEvents s.events.acknowledge) h hr _ _
  · exact produceReply_sound s h hr _ _

theorem abort_sound (seq : Byte) (tag : Tag) : (storeOf (abort seq tag s)).Sound := by
  have replied (body : ReplyBody) := produceReply_sound s h hr seq body
  unfold abort
  split
  · exact replied _
  · split
    · rw [storeOf_markAbort]
      exact replied .ok
    all_goals
      rw [storeOf_schedule, storeOf_produceDone, storeOf_removeWaiting]
      exact replied .ok

end

/-! ## HI -/

section
variable (s : State) (h : (storeOf s).Sound)
include h

theorem takeLoadPut_sound (seq : Byte) (entries : List Byte) : (storeOf (takeLoadPut seq entries s)).Sound := by
  unfold takeLoadPut
  split
  · exact h
  · split
    · exact manage_sound s h _ fun hr => loadPut_sound s h hr seq entries
    · simp [h]

theorem deliver_sound (i : Instr) : (storeOf (deliver i s)).Sound := by
  cases i with
  | read | write | verify | format | reassign | recal | spin => simp [deliver, h]
  | block => simp [deliver, h]
  | loadPut => exact takeLoadPut_sound s h _ _
  | loadOpen seq table => exact manage_sound s h _ fun hr => loadOpen_sound s h hr seq table
  | loadClose seq => exact manage_sound s h _ fun hr => loadClose_sound s h hr seq
  | loadDrop seq table => exact manage_sound s h _ fun hr => loadDrop_sound s h hr seq table
  | commit seq => exact manage_sound s h _ fun hr => commit_sound s h hr seq
  | tableGet seq table first => exact manage_sound s h _ fun hr => tableGet_sound s h hr seq table first
  | wipe seq => exact manage_sound s h _ fun hr => wipe_sound s h hr seq
  | query seq flags => exact manage_sound s h _ fun hr => query_sound s h hr seq flags
  | eventSet seq mask => exact manage_sound s h _ fun hr => eventSet_sound s h hr seq mask
  | eventAck seq acked => exact manage_sound s h _ fun hr => eventAck_sound s h hr seq acked
  | abort seq tag => exact manage_sound s h _ fun hr => abort_sound s h hr seq tag
  | _ => exact h

theorem judge_sound (len : Nat) (bytes : List Byte) : (storeOf (judge len bytes s)).Sound := by
  unfold judge
  split
  · simp [h]
  · split
    · split
      · exact deliver_sound s h _
      · simp [h]
    · simp [h]

theorem takeByte_sound (b : Byte) : (storeOf (takeByte b s)).Sound := by
  unfold takeByte receiveByte
  split
  · exact h
  · split
    · split <;> exact h
    · exact h
    · split
      · exact h
      · simpa [State.setRx] using h
    · split
      · exact h
      · exact judge_sound _ (by exact h) _ _

end

/-! ## HO -/

section
variable (s : State)

@[simp] theorem storeOf_noticeGone : storeOf (noticeGone s) = storeOf s := by
  simp [noticeGone, replies_eq_storeOf]

theorem replyGone_sound (h : (storeOf s).Sound) : (storeOf (replyGone s)).Sound := by
  have fewer : s.arb.replies.length - 1 ≤ 4 := (Nat.sub_le _ _).trans h.replies
  rw [replyGone, storeOf_freeLane]
  exact ⟨h.flagged, by simpa using fewer, h.pages⟩

@[simp] theorem storeOf_doneGone (tag : Tag) : storeOf (doneGone tag s) = storeOf s := by simp [doneGone]

@[simp] theorem storeOf_callGone (tag : Tag) : storeOf (callGone tag s) = storeOf s := by
  simp [callGone, pages_eq_storeOf]

@[simp] theorem storeOf_pageGone (tag : Tag) (page : Nat) : storeOf (pageGone tag page s) = storeOf s := by
  have freed : storeOf (grant (s.setBuffer (s.buffer.setUse page .free))) = storeOf s := by
    simp [pages_eq_storeOf]
  unfold pageGone drained
  split
  · split
    · split <;> simp [freed]
    · exact freed
  · exact freed

@[simp] theorem storeOf_eventGone (seq : Byte) : storeOf (eventGone seq s) = storeOf s := by simp [eventGone]

@[simp] theorem storeOf_resendHead : storeOf (resendHead s) = storeOf s := by simp [resendHead]

end

/-! ## Resets (09 R168; 10 R184) -/

/-- A start is WARM with a generation that is not 0, or COLD with no set and generation 0. -/
theorem startTables_flagged (image : RetainedImage) : (startTables image).Flagged := by
  unfold startTables
  split
  · rename_i g a hu
    have hg : g ≠ 0#16 := by
      cases image with
      | unknown => cases hu
      | contents bytes check =>
        simp only [RetainedImage.usable] at hu
        split at hu
        · obtain ⟨r, -, hr⟩ := Option.bind_eq_some_iff.1 hu
          split at hr
          · cases hr
            rename_i hr
            exact hr.1
          · cases hr
        · cases hu
    simp [Tables.Flagged, Tables.install, hg]
  · exact iff_of_true rfl rfl

theorem hardReset_sound (s : State) (h : (storeOf s).Sound) (pins : Pins) : (storeOf (s.hardReset pins)).Sound :=
  ⟨startTables_flagged _, Nat.zero_le _, (List.length_map _).trans h.pages⟩

@[simp] theorem storeOf_produceNotice (s : State) : storeOf (produceNotice s) = storeOf s := by
  unfold produceNotice
  split <;> simp [replies_eq_storeOf]

@[simp] theorem storeOf_takenBefore (bits : List Bool) (s : State) : storeOf (takenBefore bits s) = storeOf s := by
  unfold takenBefore
  split
  · split
    · rfl
    · exact storeOf_setCodec s _
    · exact storeOf_setCodec s _
    · split <;> simp
  all_goals rfl

theorem assertLrst_sound (s : State) (h : (storeOf s).Sound) : (storeOf (assertLrst s)).Sound :=
  ⟨h.flagged, Nat.zero_le _, (List.length_map _).trans h.pages⟩

/-! ## The commands -/

theorem exec_storeSound (i : Instr) (s t : State) (h : (storeOf s).Sound) (he : exec i s = .next t) :
    (storeOf t).Sound := by
  by_cases hf : (encodeFrame i).isSome = true
  · rw [exec_hostFrame i s hf] at he
    cases he
    exact deliver_sound s h i
  cases i with
  | powerOn =>
    cases he
    rw [storeOf_produceNotice, storeOf_setLines]
    exact hardReset_sound s h _
  | reset =>
    simp only [exec, execReset] at he
    split at he <;> cases he
    · exact h
    · exact hardReset_sound s h s.pins
  | lrst bits =>
    simp only [exec, execLrst] at he
    split at he <;> cases he
    · exact h
    · exact assertLrst_sound _ (storeOf_takenBefore bits s ▸ h)
  | resetRelease line =>
    simp only [exec, execResetRelease] at he
    split at he <;> cases he
    · split <;> simpa using h
    · exact h
  | hiByte bits =>
    simp only [exec, execHiByte] at he
    split at he <;> cases he
    · exact h
    · exact takeByte_sound _ (by exact h) _
  | read | write | verify | format | reassign | recal | spin | block | loadPut | abort | loadOpen | loadClose
  | loadDrop | commit | tableGet | wipe | query | eventSet | eventAck => exact absurd rfl hf
  | replySent =>
    simp only [exec, execReplySent] at he
    split at he <;> cases he
    · exact replyGone_sound s h
    · exact h
  | noticeSent | doneSent | callSent | blockSent | eventSent =>
    simp only [exec, execNoticeSent, execDoneSent, execCallSent, execBlockSent, execEventSent] at he
    split at he <;> cases he
    · simpa using h
    · exact h
  | dataTimeout | enterLocked | spinupTimeout | retargetTimeout | silenceTimeout | idleTimeout | resendTimeout
  | stepTimerExpiry | settleTimerExpiry =>
    simp only [exec, execDataTimeout, execEnterLocked, execSpinupTimeout, execRetargetTimeout, execSilenceTimeout,
      execIdleTimeout, execResendTimeout, execStepTimerExpiry, execSettleTimerExpiry] at he
    split at he <;> cases he
    · simpa [faultSpindle, restSpindle] using h
    · exact h
  | enterLost | stallTimeout =>
    simp only [exec, execEnterLost, execStallTimeout] at he
    split at he <;> cases he
    · simp [h]
    · exact h
  | addressFieldEnd bits =>
    simp only [exec, execAddressFieldEnd] at he
    split at he <;> cases he
    · simpa using h
    all_goals exact h
  | huntTimeout =>
    simp only [exec, execHuntTimeout] at he
    split at he
    · split at he <;> cases he
      · simp [h]
      · exact h
    · cases he
      exact h
  | dataMarkTimeout | dataReadEnd | gap2End | written =>
    simp only [exec, execDataMarkTimeout, execDataReadEnd, execGap2End, execWritten] at he
    split at he <;> cases he
    · simp [h]
    all_goals exact h
  | tachPulse ns =>
    cases he
    simp [h]
  | wprotChange active =>
    simp only [exec, execWprotChange] at he
    split at he <;> cases he
    · exact h
    · rw [storeOf_afterEngine]
      exact senseChange_sound _ (by exact h) _
  | vretLoss =>
    cases he
    exact h.withTables h.flagged

/-- Settles O6: every command changes the active set and the generation together, a REPLY is produced only where fewer
than four are unsent, and no operation makes or loses a page. -/
theorem storeSoundKept : Obligations.StoreSoundKept := by
  intro s t h hs
  rw [storeSound_iff] at h ⊢
  unfold step at hs
  split at hs
  · cases hs
    exact h
  · exact exec_storeSound _ _ t (by exact h) hs

end Sys2Proof.Machine
end

section
/-!
PROOFS. Load sessions (10 R173 to R177), TABLE_GET and WIPE (10 R185, R186): each frame that is routed goes to its
owner, which answers by the session, the table's id and the stage the session is open on.
-/

namespace Sys2Proof.Machine

/-! ## The frames reach the table store (09 R158) -/

section
variable {s : State} (h : s.routes) (seq : Byte)
include h

theorem exec_loadOpen (table : Byte) : exec (.loadOpen seq table) s = .next (loadOpen seq table s) :=
  congrArg Host.Outcome.next (manage_routed h (loadOpen seq table))

theorem exec_loadPut {bytes : List Byte} (hbytes : loadPutOk bytes = true) :
    exec (.loadPut seq bytes) s = .next (loadPut seq bytes s) := by
  have hheld : s.resetHeld = false := h.1
  have taken : takeLoadPut seq bytes s = manage (loadPut seq bytes) s := by
    simp only [takeLoadPut, hheld, hbytes, if_true, if_false, Bool.false_eq_true]
  exact congrArg Host.Outcome.next (taken.trans (manage_routed h _))

theorem exec_loadClose : exec (.loadClose seq) s = .next (loadClose seq s) :=
  congrArg Host.Outcome.next (manage_routed h (loadClose seq))

theorem exec_loadDrop (table : Byte) : exec (.loadDrop seq table) s = .next (loadDrop seq table s) :=
  congrArg Host.Outcome.next (manage_routed h (loadDrop seq table))

theorem exec_commit : exec (.commit seq) s = .next (commit seq s) :=
  congrArg Host.Outcome.next (manage_routed h (commit seq))

theorem exec_tableGet (table first : Byte) : exec (.tableGet seq table first) s = .next (tableGet seq table first s) :=
  congrArg Host.Outcome.next (manage_routed h (tableGet seq table first))

theorem exec_wipe : exec (.wipe seq) s = .next (wipe seq s) := congrArg Host.Outcome.next (manage_routed h (wipe seq))

end

/-! ## LOAD_OPEN and LOAD_DROP (10 R173, R177) -/

/-- Settles O20: by the table's id and, for LOAD_OPEN, by the session. -/
theorem loadOpenAndDrop : Obligations.LoadOpenAndDrop := by
  intro s seq table hroutes
  rw [exec_loadOpen hroutes, exec_loadDrop hroutes]
  refine ⟨fun hbad => ⟨by simp only [loadOpen, hbad], by simp only [loadDrop, hbad]⟩, fun id hid => ⟨?_, ?_, ?_⟩⟩
  · intro hopen
    simp only [loadOpen, hid, hopen, if_true]
  · intro hclosed
    simp only [loadOpen, hid, hclosed, Option.isSome_none, Bool.false_eq_true, if_false]
    rfl
  · simp only [loadDrop, hid]
    rfl

/-! ## LOAD_PUT (10 R174) -/

/-- A LOAD_PUT in a session, by whether it is malformed or passes the table's capacity. -/
theorem loadPut_session {s : State} {id : TableId} (hsession : s.tables.session = some id) (seq : Byte)
    (bytes : List Byte) :
    loadPut seq bytes s =
      if bytes.length % id.entrySize ≠ 0 ∨ 32 < bytes.length / id.entrySize then
        stopLoad seq id ⟨.field, (s.tables.staging.get id).entries.length⟩ s
      else if id.capacity < (s.tables.staging.get id).entries.length + bytes.length / id.entrySize then
        stopLoad seq id ⟨.tooMany, id.capacity⟩ s
      else produceReply seq .ok (s.setTables (s.tables.setStage id { s.tables.staging.get id with
        entries := (s.tables.staging.get id).entries ++
          chunks id.entrySize (bytes.length / id.entrySize) bytes })) := by
  simp only [loadPut, hsession]

theorem stopLoad_stale {s : State} {id : TableId} (h : (s.tables.staging.get id).state = .stale) (seq : Byte)
    (r : Rejection) :
    stopLoad seq id r s = produceReply seq .staleStage (s.setTables { s.tables with session := none }) :=
  if_pos h

theorem stopLoad_loading {s : State} {id : TableId} (h : (s.tables.staging.get id).state ≠ .stale) (seq : Byte)
    (r : Rejection) : stopLoad seq id r s = produceReply seq (.rejected r) (s.setTables { s.tables with
      staging := s.tables.staging.set id { s.tables.staging.get id with state := .rejected r }, session := none }) :=
  if_neg h

/-- Settles O21: a malformed frame is named before one past capacity, and both end in `stopLoad`. -/
theorem loadPutAppends : Obligations.LoadPutAppends := by
  intro s seq bytes hroutes hmin hmax
  rw [exec_loadPut hroutes seq (decide_eq_true ⟨hmin, hmax⟩)]
  refine ⟨fun hnone => by simp only [loadPut, hnone], fun id stage hsession hstage => ?_⟩
  subst hstage
  intro n closed malformed past reason
  have stopped : malformed ∨ past → loadPut seq bytes s = stopLoad seq id reason s := by
    intro hstop
    rw [loadPut_session hsession]
    by_cases hm : malformed
    · rw [if_pos hm, show reason = _ from if_pos hm]
    · rw [if_neg hm, if_pos (hstop.resolve_left hm), show reason = _ from if_neg hm]
  refine ⟨fun hstop hstale => ?_, fun hstop hloading => ?_, fun hm hp => ?_⟩
  · rw [stopped hstop, stopLoad_stale hstale]
  · rw [stopped hstop, stopLoad_loading hloading]
  · rw [loadPut_session hsession, if_neg hm, if_neg hp]
    rfl

/-! ## LOAD_CLOSE (10 R175) -/

/-- Settles O22: by the session, the stage's state and the checks of its table. -/
theorem loadCloseJudges : Obligations.LoadCloseJudges := by
  intro s seq hroutes
  rw [exec_loadClose hroutes]
  refine ⟨fun hnone => by simp only [loadClose, hnone], fun id stage hsession hstage => ?_⟩
  subst hstage
  refine ⟨fun hstale => ?_, fun hloading hgood => ?_, fun r hloading hbad => ?_⟩
  · simp only [loadClose, hsession, hstale, if_true]
  · simp only [loadClose, hsession, hloading, hgood, if_false]
    rfl
  · simp only [loadClose, hsession, hloading, hbad, if_false]
    rfl

/-! ## TABLE_GET and WIPE (10 R185, R186) -/

/-- The entries a TABLE_GET answers with, from an index on. -/
def entriesFrom (first : Nat) (es : List (List Byte)) : List (List Byte) := (es.drop first).take 32

theorem entriesFrom_length (first : Nat) (es : List (List Byte)) :
    (entriesFrom first es).length = min 32 (es.length - first) := by
  rw [entriesFrom, List.length_take, List.length_drop]

theorem entriesFrom_getElem? {first : Nat} {es : List (List Byte)} {k : Nat} (h : k < (entriesFrom first es).length) :
    (entriesFrom first es)[k]? = es[first + k]? := by
  have hk : k < 32 := by rw [entriesFrom_length] at h; omega
  rw [entriesFrom, List.getElem?_take_of_lt hk, List.getElem?_drop]

/-- Settles O27: TABLE_GET by the table's id and the active set, WIPE by the tags in use. -/
theorem tableGetAndWipe : Obligations.TableGetAndWipe := by
  intro s seq hroutes
  simp only [exec_tableGet hroutes, exec_wipe hroutes]
  refine ⟨fun table first hbad => ?_, fun table first id hid hnone => ?_, fun table first id a hid ha => ?_,
    fun hbusy => ?_, fun hidle => ?_⟩
  · simp only [tableGet, hbad]
  · simp only [tableGet, hid, hnone]
  · refine ⟨entriesFrom first.toNat (a.entries id), ?_, entriesFrom_length _ _, fun k => entriesFrom_getElem?⟩
    simp only [tableGet, hid, ha]
    rfl
  · simp only [wipe, List.isEmpty_iff, hbusy, if_false]
  · simp only [wipe, List.isEmpty_iff, hidle, if_true]
    rfl

end Sys2Proof.Machine
end

section
/-!
PROOFS. COMMIT (10 R178 to R183): the refusals in their order, the set a COMMIT judges, and what installing it leaves of
the table store.
-/

namespace Sys2Proof.Machine

/-! ## Staging tables (10 R172) -/

theorem Staging.get_set (g : Staging) (i j : TableId) (x : Stage) :
    (g.set i x).get j = if i = j then x else g.get j := by
  cases i <;> cases j <;> rfl

theorem TableId.mem_all (id : TableId) : id ∈ TableId.all := by cases id <;> decide

/-- The byte that names a table (10 section 10.2). -/
def TableId.number : TableId → Nat
  | .device => 1
  | .zone => 2
  | .code => 3
  | .defect => 4

theorem TableId.all_split (id : TableId) : ∃ before after, TableId.all = before ++ id :: after ∧
    ∀ lower ∈ before, lower.number < id.number := by
  cases id with
  | device => exact ⟨[], [.zone, .code, .defect], rfl, by decide⟩
  | zone => exact ⟨[.device], [.code, .defect], rfl, by decide⟩
  | code => exact ⟨[.device, .zone], [.defect], rfl, by decide⟩
  | defect => exact ⟨[.device, .zone, .code], [], rfl, by decide⟩

section
variable (t : Tables)

/-- The staging table of this id is VALID. -/
@[reducible] def Tables.Valid (id : TableId) : Prop := (t.staging.get id).state = .valid

theorem Tables.staged_valid {t : Tables} {id : TableId} (h : t.Valid id) :
    t.staged id = some (t.staging.get id).entries := if_pos h

theorem Tables.staged_other {t : Tables} {id : TableId} (h : ¬ t.Valid id) : t.staged id = none := if_neg h

theorem Tables.staged_isSome (id : TableId) : (t.staged id).isSome = true ↔ t.Valid id := by
  by_cases h : t.Valid id
  · exact iff_of_true (by rw [Tables.staged_valid h]; rfl) h
  · exact iff_of_false (by simp [Tables.staged_other h]) h

theorem Tables.anyStaged_iff : t.anyStaged = true ↔ ∃ id, t.Valid id := by
  simp [Tables.anyStaged, Tables.staged_isSome, TableId.mem_all]

/-- Of the ids gone through, the VALID ones are emptied. -/
theorem Tables.emptied_get (ids : List TableId) (u : Tables) (id : TableId) :
    (ids.foldl (fun u id => if (t.staged id).isSome then u.setStage id .reset else u) u).staging.get id =
      if id ∈ ids ∧ (t.staged id).isSome = true then .reset else u.staging.get id := by
  induction ids generalizing u with
  | nil => simp
  | cons x xs ih =>
    rw [List.foldl_cons, ih]
    by_cases hx : id = x
    · subst hx
      by_cases hs : (t.staged id).isSome = true <;> simp [hs, Tables.setStage, Staging.get_set]
    · have hx' : ¬ x = id := fun e => hx e.symm
      split_ifs <;> simp_all [Tables.setStage, Staging.get_set]

theorem Tables.emptyValid_valid {t : Tables} {id : TableId} (h : t.Valid id) :
    t.emptyValid.staging.get id = .reset := by
  rw [Tables.emptyValid, Tables.emptied_get, if_pos ⟨id.mem_all, (t.staged_isSome id).2 h⟩]

theorem Tables.emptyValid_other {t : Tables} {id : TableId} (h : ¬ t.Valid id) :
    t.emptyValid.staging.get id = t.staging.get id := by
  rw [Tables.emptyValid, Tables.emptied_get, if_neg fun hs => h ((t.staged_isSome id).1 hs.2)]

end

/-! ## The refusals (10 R178) -/

/-- The reason of one staging table, where it is REJECTED. -/
def Stage.rejection (g : Stage) : Option Rejection :=
  match g.state with
  | .rejected r => some r
  | _ => none

theorem Stage.rejection_some {g : Stage} {r : Rejection} (h : g.state = .rejected r) : g.rejection = some r := by
  simp only [Stage.rejection, h]

theorem Stage.rejection_none {g : Stage} (h : ∀ r, g.state ≠ .rejected r) : g.rejection = none := by
  cases hs : g.state with
  | rejected r => exact absurd hs (h r)
  | _ => simp only [Stage.rejection, hs]

theorem Tables.firstRejected_eq (t : Tables) :
    t.firstRejected = TableId.all.findSome? fun id => (t.staging.get id).rejection := rfl

/-- The REJECTED staging table of lowest id answers. -/
theorem Tables.firstRejected_lowest {t : Tables} {id : TableId} {r : Rejection}
    (h : (t.staging.get id).state = .rejected r)
    (hlower : ∀ lower q, lower.number < id.number → (t.staging.get lower).state ≠ .rejected q) :
    t.firstRejected = some r := by
  obtain ⟨before, after, hall, hbefore⟩ := id.all_split
  rw [Tables.firstRejected_eq, List.findSome?_eq_some_iff]
  exact ⟨before, id, after, hall, Stage.rejection_some h,
    fun lower hl => Stage.rejection_none fun q => hlower lower q (hbefore lower hl)⟩

theorem Tables.firstRejected_none {t : Tables} (h : ∀ id r, (t.staging.get id).state ≠ .rejected r) :
    t.firstRejected = none := by
  rw [Tables.firstRejected_eq, List.findSome?_eq_none_iff]
  exact fun id _ => Stage.rejection_none (h id)

section
variable {s : State}

theorem commitRefusal_busy (h : s.queue.records ≠ []) : commitRefusal s = some .queueBusy := by
  simp [commitRefusal, h]

theorem commitRefusal_open (hidle : s.queue.records = []) (h : s.tables.session.isSome = true) :
    commitRefusal s = some .sessionOpen := by
  simp [commitRefusal, hidle, h]

theorem commitRefusal_stale (hidle : s.queue.records = []) (hclosed : s.tables.session = none)
    (h : (s.tables.staging.get .defect).state = .stale) : commitRefusal s = some .staleStage := by
  have hdefect : s.tables.staging.defect.state = .stale := h
  simp [commitRefusal, hidle, hclosed, hdefect]

theorem commitRefusal_rejected (hidle : s.queue.records = []) (hclosed : s.tables.session = none)
    (h : (s.tables.staging.get .defect).state ≠ .stale) :
    commitRefusal s = s.tables.firstRejected.map .rejected := by
  have hdefect : s.tables.staging.defect.state ≠ .stale := h
  simp [commitRefusal, hidle, hclosed, hdefect]

end

/-! ## The set a COMMIT judges (10 R178 check 5, R179) -/

section
variable (t : Tables)

/-- What a staging table gives the new set: its entries read by `f` where it is VALID, else `other`. -/
def Tables.fromStaging {α : Type} (id : TableId) (f : List (List Byte) → α) (other : α) : α :=
  match t.staged id with
  | some es => f es
  | none => other

theorem Tables.fromStaging_eq {α : Type} (id : TableId) (f : List (List Byte) → α) (other : α) :
    t.fromStaging id f other = if t.Valid id then f (t.staging.get id).entries else other := by
  by_cases h : t.Valid id
  · simp only [Tables.fromStaging, Tables.staged_valid h, if_pos h]
  · simp only [Tables.fromStaging, Tables.staged_other h, if_neg h]

/-- A set needs a device record, a zone table and a code table; a missing map is empty. -/
theorem Tables.candidate_eq : t.candidate =
    (t.fromStaging .device (fun es => some (Device.ofBytes (es.getD 0 []))) (t.active.map (·.device))).bind fun d =>
    (t.fromStaging .zone (fun es => some (es.map Zone.ofBytes)) (t.active.map (·.zones))).bind fun z =>
    (t.fromStaging .code (fun es => some (es.map (byteAt · 0))) (t.active.map (·.code))).map fun c =>
      ⟨d, z, c, t.fromStaging .defect (·.map Defect.ofBytes) ((t.active.map (·.map)).getD [])⟩ := by
  unfold Tables.candidate
  dsimp only
  split
  · rename_i hd hz hc
    rw [show t.fromStaging .device _ _ = _ from hd, show t.fromStaging .zone _ _ = _ from hz,
      show t.fromStaging .code _ _ = _ from hc]
    rfl
  · rename_i missing
    symm
    rw [Option.eq_none_iff_forall_not_mem]
    intro a ha
    obtain ⟨d, hd, ha⟩ := Option.bind_eq_some_iff.1 ha
    obtain ⟨z, hz, ha⟩ := Option.bind_eq_some_iff.1 ha
    obtain ⟨c, hc, -⟩ := Option.map_eq_some_iff.1 ha
    exact missing d z c hd hz hc

end

/-! ## Installing a set (10 R180, R181, R183) -/

/-- The table store after a COMMIT that installs `a`. -/
def Tables.committed (t : Tables) (a : ActiveSet) : Tables :=
  { t.commitSet a with staging := t.emptyValid.staging }

theorem installSet_eq (seq : Byte) (a : ActiveSet) (s : State) : installSet seq a s =
    raiseEvent .tablesCommitted (detailNat (nextGeneration s.tables.generation).toNat)
      (produceReply seq .ok (s.setTables (s.tables.committed a))) := rfl

section
variable (t : Tables) (a : ActiveSet)

theorem Tables.committed_get (id : TableId) :
    (t.committed a).staging.get id = if t.Valid id then ⟨.empty, []⟩ else t.staging.get id := by
  by_cases h : t.Valid id
  · rw [if_pos h]; exact Tables.emptyValid_valid h
  · rw [if_neg h]; exact Tables.emptyValid_other h

theorem Tables.committed_zoneRecs :
    (t.committed a).zoneRecs = if (t.staged .zone).isSome then deriveZones a.zones else t.zoneRecs := rfl

theorem Tables.committed_inverse :
    (t.committed a).inverse = if (t.staged .code).isSome then buildInverse a.code else t.inverse := rfl

theorem Tables.committed_slots : (t.committed a).slots =
    if (t.staged .zone).isSome || (t.staged .defect).isSome then buildSlots (t.committed a).zoneRecs a.map
    else t.slots := rfl

end

/-! ## COMMIT (10 R178 to R180) -/

section
variable {s : State} (seq : Byte)

theorem commit_refused {body : ReplyBody} (h : commitRefusal s = some body) :
    commit seq s = produceReply seq body s := by
  simp only [commit, h]

variable (h : commitRefusal s = none)
include h

theorem commit_missing (hnone : s.tables.candidate = none) : commit seq s = produceReply seq .missingTable s := by
  simp only [commit, h, hnone]

variable {a : ActiveSet} (ha : s.tables.candidate = some a)
include ha

theorem commit_nothing (hstaged : ∀ id, ¬ s.tables.Valid id) : commit seq s = produceReply seq .ok s := by
  have hany : ¬ s.tables.anyStaged = true := fun hs =>
    let ⟨id, hid⟩ := s.tables.anyStaged_iff.1 hs
    hstaged id hid
  simp only [commit, h, ha, hany, if_false, Bool.false_eq_true]

theorem commit_fails (hstaged : ∃ id, s.tables.Valid id) {r : Rejection} (hr : checkSet a = some r) :
    commit seq s = produceReply seq (.rejected r) s := by
  simp only [commit, h, ha, s.tables.anyStaged_iff.2 hstaged, hr, if_true]

theorem commit_installs (hstaged : ∃ id, s.tables.Valid id) (hr : checkSet a = none) :
    commit seq s = raiseEvent .tablesCommitted (detailNat (nextGeneration s.tables.generation).toNat)
      (produceReply seq .ok (s.setTables (s.tables.committed a))) := by
  simp only [commit, h, ha, s.tables.anyStaged_iff.2 hstaged, hr, if_true, installSet_eq]

end

/-- Settles O26: first by the refusal, then by the set the COMMIT judges. -/
theorem commitInstalls : Obligations.CommitInstalls := by
  intro s seq hroutes answer stage number valid
  have answered {body : ReplyBody} (h : commit seq s = produceReply seq body s) : answer body :=
    (exec_commit hroutes seq).trans (congrArg _ h)
  refine ⟨fun hbusy => ?_, fun hidle hopen => ?_, fun hidle hclosed hstale => ?_, fun hidle hclosed hfresh => ?_⟩
  · exact answered (commit_refused seq (commitRefusal_busy hbusy))
  · exact answered (commit_refused seq (commitRefusal_open hidle hopen))
  · exact answered (commit_refused seq (commitRefusal_stale hidle hclosed hstale))
  have refusal := commitRefusal_rejected hidle hclosed hfresh
  refine ⟨fun id r hr hlowest => ?_, fun hgood => ?_⟩
  · refine answered (commit_refused seq (refusal.trans ?_))
    rw [Tables.firstRejected_lowest hr hlowest]
    rfl
  have accepted : commitRefusal s = none := by rw [refusal, Tables.firstRejected_none hgood]; rfl
  intro device zones code map
  have candidate : s.tables.candidate = device.bind fun d => zones.bind fun z => code.map fun c => ⟨d, z, c, map⟩ := by
    simp only [Tables.candidate_eq, Tables.fromStaging_eq]
    rfl
  refine ⟨fun hmissing => answered (commit_missing seq accepted (candidate.trans ?_)), fun d z c hd hz hc => ?_⟩
  · obtain hm | hm | hm := hmissing <;> simp [hm]
  have formed : s.tables.candidate = some ⟨d, z, c, map⟩ := by rw [candidate, hd, hz, hc]; rfl
  intro a
  refine ⟨fun hnone => answered (commit_nothing seq accepted formed hnone), fun hstaged =>
    ⟨fun r hr => ?_, fun hr => ?_⟩⟩
  · exact answered (commit_fails seq accepted formed hstaged hr)
  have staged := s.tables.staged_isSome
  refine ⟨s.tables.committed a, ?_, rfl, rfl, rfl, rfl, rfl, s.tables.committed_get a, ?_, ?_, ?_, ?_, ?_, ?_⟩
  · exact (exec_commit hroutes seq).trans (congrArg _ (commit_installs seq accepted formed hstaged hr))
  · exact fun h => (s.tables.committed_zoneRecs a).trans (if_pos ((staged _).2 h))
  · exact fun h => (s.tables.committed_zoneRecs a).trans (if_neg fun hs => h ((staged _).1 hs))
  · exact fun h => (s.tables.committed_inverse a).trans (if_pos ((staged _).2 h))
  · exact fun h => (s.tables.committed_inverse a).trans (if_neg fun hs => h ((staged _).1 hs))
  · intro h
    exact (s.tables.committed_slots a).trans (if_pos (Bool.or_eq_true_iff.2 (h.imp (staged _).2 (staged _).2)))
  · intro hz hd
    refine (s.tables.committed_slots a).trans (if_neg fun hs => ?_)
    exact (Bool.or_eq_true_iff.1 hs).elim (fun h => hz ((staged _).1 h)) (fun h => hd ((staged _).1 h))

end Sys2Proof.Machine
end

section
/-!
PROOFS. The retained image (10 R182 to R184): its byte sequence reads back as the tables it was written from, so that a
start finds exactly that set where it passes the checks. Power-on, the release of the reset lines with its NOTICE (09
R168, R169) and the loss of VRET (10 R183).
-/

namespace Sys2Proof.Machine

/-! ## Parts of a sequence -/

theorem byteAt_append {n : Nat} (before : List Byte) (b : Byte) (after : List Byte) (h : before.length = n) :
    byteAt (before ++ b :: after) n = b := by
  subst h
  simp [byteAt]

theorem slice_append {α : Type} {n k : Nat} (before part after : List α) (hn : before.length = n)
    (hk : part.length = k) : ((before ++ (part ++ after)).drop n).take k = part := by
  rw [List.drop_left' hn, List.take_left' hk]

theorem flatten_length {α : Type} {k : Nat} {es : List (List α)} (h : ∀ e ∈ es, e.length = k) :
    es.flatten.length = k * es.length := by
  rw [List.length_flatten, List.map_congr_left h, List.map_const', List.sum_replicate, smul_eq_mul, Nat.mul_comm]

theorem chunks_cons {α : Type} {k : Nat} (fuel : Nat) {e : List α} (rest : List α) (hk : 0 < k) (he : e.length = k) :
    chunks k (fuel + 1) (e ++ rest) = e :: chunks k fuel rest := by
  obtain _ | ⟨x, xs⟩ := e
  · exact absurd hk (by simp [← he])
  · rw [List.cons_append, chunks, ← List.cons_append, List.take_left' he, List.drop_left' he]

/-- Entries of one size put one after the other are cut apart again. -/
theorem chunks_flatten {α : Type} {k : Nat} (hk : 0 < k) {es : List (List α)} (h : ∀ e ∈ es, e.length = k) :
    chunks k es.length es.flatten = es := by
  induction es with
  | nil => rfl
  | cons e es ih =>
    obtain ⟨he, hes⟩ := List.forall_mem_cons.1 h
    rw [List.length_cons, List.flatten_cons, chunks_cons _ _ hk he, ih hes]

/-! ## The sequence of the image (10 R182) -/

/-- The byte sequence of raw tables under a generation. -/
def imageLayout (g : BitVec 16) (device code : List Byte) (zones map : List (List Byte)) : List Byte :=
  be16 g.toNat ++ (device ++ (byte zones.length :: (zones.flatten ++ (code ++ (byte map.length :: map.flatten)))))

/-- The raw tables themselves. -/
def RawImage.of (g : BitVec 16) (device code : List Byte) (zones map : List (List Byte)) : RawImage :=
  ⟨g, [device], zones, code.map fun b => [b], map⟩

theorem imageBytes_eq (g : BitVec 16) (a : ActiveSet) : imageBytes g a =
    imageLayout g a.device.bytes a.code (a.zones.map Zone.bytes) (a.map.map Defect.bytes) := by
  simp [imageBytes, imageLayout]

/-- Raw tables that an image can hold: entries of their sizes, and counts of one byte. -/
structure ImageFits (device code : List Byte) (zones map : List (List Byte)) : Prop where
  device : device.length = 16
  code : code.length = 64
  zone : ∀ e ∈ zones, e.length = 7
  defect : ∀ e ∈ map, e.length = 6
  zones : zones.length < 256
  map : map.length < 256

section
variable (g : BitVec 16) {device code : List Byte} {zones map : List (List Byte)} (h : ImageFits device code zones map)
include h

theorem imageLayout_length :
    (imageLayout g device code zones map).length = 19 + 7 * zones.length + 65 + 6 * map.length := by
  simp only [imageLayout, List.length_append, List.length_cons, be16_length, h.device, h.code, flatten_length h.zone,
    flatten_length h.defect]
  omega

theorem imageLayout_zoneCount : (byteAt (imageLayout g device code zones map) 18).toNat = zones.length := by
  rw [imageLayout, ← List.append_assoc, byteAt_append _ _ _ (by simp [h.device]), byte_toNat,
    Nat.mod_eq_of_lt h.zones]

theorem imageLayout_mapCount :
    (byteAt (imageLayout g device code zones map) (19 + 7 * zones.length + 64)).toNat = map.length := by
  have split : imageLayout g device code zones map =
      (be16 g.toNat ++ device ++ byte zones.length :: zones.flatten ++ code) ++ byte map.length :: map.flatten := by
    simp [imageLayout]
  rw [split, byteAt_append _ _ _ (by simp [h.device, h.code, flatten_length h.zone]; omega), byte_toNat,
    Nat.mod_eq_of_lt h.map]

theorem imageLayout_device : ((imageLayout g device code zones map).drop 2).take 16 = device :=
  slice_append _ _ _ (be16_length _) h.device

theorem imageLayout_zones :
    ((imageLayout g device code zones map).drop 19).take (7 * zones.length) = zones.flatten := by
  have split : imageLayout g device code zones map = (be16 g.toNat ++ device ++ [byte zones.length]) ++
      (zones.flatten ++ (code ++ byte map.length :: map.flatten)) := by simp [imageLayout]
  rw [split, slice_append _ _ _ (by simp [h.device]) (flatten_length h.zone)]

theorem imageLayout_code :
    ((imageLayout g device code zones map).drop (19 + 7 * zones.length)).take 64 = code := by
  have split : imageLayout g device code zones map =
      (be16 g.toNat ++ device ++ byte zones.length :: zones.flatten) ++
        (code ++ byte map.length :: map.flatten) := by simp [imageLayout]
  rw [split, slice_append _ _ _ (by simp [h.device, flatten_length h.zone]; omega) h.code]

theorem imageLayout_map :
    (imageLayout g device code zones map).drop (19 + 7 * zones.length + 65) = map.flatten := by
  have split : imageLayout g device code zones map =
      (be16 g.toNat ++ device ++ byte zones.length :: zones.flatten ++ code ++ [byte map.length]) ++
        map.flatten := by simp [imageLayout]
  rw [split, List.drop_left' (by simp [h.device, h.code, flatten_length h.zone]; omega)]

/-- The sequence reads back as the raw tables. -/
theorem parseImage_layout :
    parseImage (imageLayout g device code zones map) = some (.of g device code zones map) := by
  have generation : (imageLayout g device code zones map).take 2 = be16 g.toNat := List.take_left' (be16_length _)
  simp only [parseImage, imageLayout_zoneCount g h, imageLayout_mapCount g h, imageLayout_length g h, if_true,
    generation, imageLayout_device g h, imageLayout_zones g h, imageLayout_code g h, imageLayout_map g h,
    beNat_be16 _ g.isLt, BitVec.ofNat_toNat, BitVec.setWidth_eq, chunks_flatten (by decide) h.zone,
    chunks_flatten (by decide) h.defect]
  rfl

end

/-! ## The start (10 R184) -/

theorem startTables_mismatch {bytes : List Byte} {check : BitVec 32} (h : check ≠ crc32 bytes) :
    startTables (.contents bytes check) = Tables.cold := by
  simp only [startTables, RetainedImage.usable, h, if_false]

section
variable {bytes : List Byte} {r : RawImage} (hparse : parseImage bytes = some r)
include hparse

theorem startTables_cold (h : ¬ (r.generation ≠ 0 ∧ r.valid = true)) :
    startTables (.contents bytes (crc32 bytes)) = Tables.cold := by
  simp only [startTables, RetainedImage.usable, hparse, Option.bind_some, h, if_true, if_false]

theorem startTables_warm (hg : r.generation ≠ 0) (hv : r.valid = true) :
    startTables (.contents bytes (crc32 bytes)) = { Tables.cold.install r.toSet r.generation with
      start := .warm, image := .contents bytes (crc32 bytes) } := by
  have h : r.generation ≠ 0 ∧ r.valid = true := ⟨hg, hv⟩
  simp only [startTables, RetainedImage.usable, hparse, Option.bind_some, h, if_true, and_self, ne_eq,
    not_false_eq_true]

end

/-- The set that raw tables stand for. -/
theorem RawImage.toSet_of (g : BitVec 16) (device code : List Byte) (zones map : List (List Byte)) :
    (RawImage.of g device code zones map).toSet =
      ⟨Device.ofBytes device, zones.map Zone.ofBytes, code, map.map Defect.ofBytes⟩ := by
  simp [RawImage.of, RawImage.toSet, byteAt, Function.comp_def]

/-- The checks of LOAD_CLOSE, the capacities and the checks of COMMIT (10 R184 step 3). -/
theorem RawImage.valid_iff (r : RawImage) : r.valid = true ↔
    checkTable .device r.device = none ∧ checkTable .zone r.zones = none ∧ checkTable .code r.code = none ∧
      checkTable .defect r.map = none ∧ r.zones.length ≤ 8 ∧ r.map.length ≤ 192 ∧ checkSet r.toSet = none := by
  simp only [RawImage.valid, checkTable, Bool.and_eq_true, decide_eq_true_eq, Option.isNone_iff_eq_none,
    Option.or_eq_none_iff, and_assoc]
  rfl

theorem Defect.bytes_length (d : Defect) : d.bytes.length = 6 := by cases d <;> rfl

/-- The tables of a set that passes the checks fit the image. -/
theorem imageFits_of_valid {g : BitVec 16} {a : ActiveSet} (hcode : a.code.length = 64)
    (h : (RawImage.of g a.device.bytes a.code (a.zones.map Zone.bytes) (a.map.map Defect.bytes)).valid = true) :
    ImageFits a.device.bytes a.code (a.zones.map Zone.bytes) (a.map.map Defect.bytes) := by
  obtain ⟨-, -, -, -, hzones, hmap, -⟩ := (RawImage.valid_iff _).1 h
  refine ⟨rfl, hcode, fun e he => ?_, fun e he => ?_, hzones.trans_lt (by decide), hmap.trans_lt (by decide)⟩
  · obtain ⟨z, -, rfl⟩ := List.mem_map.1 he
    rfl
  · obtain ⟨d, -, rfl⟩ := List.mem_map.1 he
    exact d.bytes_length

/-- Settles O60: the image reads back as the raw tables of the set, which the hypothesis says pass the checks and stand
for the set. -/
theorem retainedImageRestores : Obligations.RetainedImageRestores := by
  intro g a hg hcode hraw
  obtain ⟨hvalid, hset⟩ := hraw (.of g a.device.bytes a.code (a.zones.map Zone.bytes) (a.map.map Defect.bytes)) rfl
  have hparse := parseImage_layout g (imageFits_of_valid hcode hvalid)
  rw [← imageBytes_eq] at hparse
  intro t
  have warm : t = { Tables.cold.install a g with start := .warm, image := imageOf g a } := by
    have started := startTables_warm hparse hg hvalid
    rw [hset] at started
    exact started
  rw [warm]
  exact ⟨rfl, rfl, rfl, rfl, rfl, rfl, rfl⟩

/-! ## Power-on and release (09 R168, R169; 10 R184; 11 R195) -/

/-- With no reset asserted and the lane free the NOTICE is started at once: its class is the first (09 R166). -/
theorem produceNotice_starts {s : State} {seed : NoticeSeed} (hseed : s.lines.seed = some seed)
    (hheld : s.resetHeld = false) (hfree : s.arb.ho = none) :
    produceNotice s = s.setArb { s.arb with
      notice := some (composeNotice seed s.tables), ho := some (.notice (composeNotice seed s.tables)) } := by
  have chosen (n : Notice) : arbitrate (s.setArb { s.arb with notice := some n }) =
      s.setArb { s.arb with notice := some n, ho := some (.notice n) } := by
    have idle : ¬ ((s.setArb { s.arb with notice := some n }).resetHeld ||
        (s.setArb { s.arb with notice := some n }).arb.ho.isSome) = true := by
      simp only [State.resetHeld] at hheld
      simp [State.resetHeld, hheld, hfree]
    rw [arbitrate, if_neg idle]
    rfl
  simp only [produceNotice, hseed, chosen]

theorem exec_powerOn (s : State) : exec .powerOn s = .next (produceNotice
    ((s.hardReset ⟨s.pins.wprotPin, s.pins.wprotPin⟩).setLines ⟨false, false, some ⟨.power, 0⟩⟩)) := rfl

theorem exec_resetRelease {s : State} {line : ResetLine} (h : s.lines.asserted line = true) :
    exec (.resetRelease line) s =
      (let u := (s.setLines (s.lines.release line)).setPins (s.pins.atRelease line)
       .next (if u.resetHeld then u else produceNotice u)) := if_pos h

/-- The release of the last asserted line. -/
theorem exec_resetRelease_last {s : State} {line : ResetLine} {seed : NoticeSeed}
    (h : s.lines.asserted line = true) (hother : (s.setLines (s.lines.release line)).resetHeld = false)
    (hseed : s.lines.seed = some seed) (hfree : s.arb.ho = none) :
    exec (.resetRelease line) s = .next (((s.setLines (s.lines.release line)).setPins (s.pins.atRelease line)).setArb
      { s.arb with
        notice := some (composeNotice seed s.tables), ho := some (.notice (composeNotice seed s.tables)) }) := by
  have released : ((s.setLines (s.lines.release line)).setPins (s.pins.atRelease line)).resetHeld = false := hother
  have kept : ((s.setLines (s.lines.release line)).setPins (s.pins.atRelease line)).lines.seed = some seed := by
    cases line <;> exact hseed
  rw [exec_resetRelease h]
  simp only [released, Bool.false_eq_true, if_false, produceNotice_starts kept released hfree]
  rfl

/-- The release of one line while the other stays asserted. -/
theorem exec_resetRelease_held {s : State} {line : ResetLine} (h : s.lines.asserted line = true)
    (hother : (s.setLines (s.lines.release line)).resetHeld = true) :
    exec (.resetRelease line) s = .next ((s.setLines (s.lines.release line)).setPins (s.pins.atRelease line)) := by
  have held : ((s.setLines (s.lines.release line)).setPins (s.pins.atRelease line)).resetHeld = true := hother
  rw [exec_resetRelease h]
  simp only [held, if_true]

/-- Settles O55: a start by the checks of what the image reads back as, a release by what the other line leaves. -/
theorem powerOnAndRelease : Obligations.PowerOnAndRelease := by
  refine ⟨fun s => ?_, fun bytes check => startTables_mismatch, rfl, ?_, rfl, fun s seed hlrst hreset hseed hfree => ?_,
    fun s seed hreset hlrst hseed hfree => ?_, fun s hreset hlrst => ⟨?_, ?_⟩, fun s => rfl⟩
  · rw [exec_powerOn, produceNotice_starts rfl rfl rfl]
    rfl
  · intro g device code zones map hdevice hcode hzone hdefect hzones hmap u8 bytes a passes t
    have hparse : parseImage bytes = some (.of g device code zones map) := by
      rw [← parseImage_layout g ⟨hdevice, hcode, hzone, hdefect, hzones, hmap⟩]
      simp [bytes, u8, imageLayout, be16, byte]
    have hset : (RawImage.of g device code zones map).toSet = a := RawImage.toSet_of g device code zones map
    have hvalid : (RawImage.of g device code zones map).valid = true ↔ passes := by
      rw [RawImage.valid_iff, hset]
      rfl
    refine ⟨fun hcold => startTables_cold hparse fun ⟨hg, hv⟩ => ?_, fun hg hpass => ?_⟩
    · exact hcold.elim hg fun hfails => hfails (hvalid.1 hv)
    · have warm : t = _ := startTables_warm hparse hg (hvalid.2 hpass)
      rw [warm, hset]
      exact ⟨rfl, rfl, rfl⟩
  · exact exec_resetRelease_last hlrst (by simp [State.resetHeld, Lines.release, hreset]) hseed hfree
  · exact exec_resetRelease_last hreset (by simp [State.resetHeld, Lines.release, hlrst]) hseed hfree
  · exact exec_resetRelease_held hlrst (by simp [State.resetHeld, Lines.release, hreset])
  · exact exec_resetRelease_held hreset (by simp [State.resetHeld, Lines.release, hlrst])

end Sys2Proof.Machine
end

section
/-!
PROOFS. The event unit's own operations (11 R190 to R194): a raise, an acknowledgement, a frame sent, a resend and a new
mask, and the write-protect sense that raises two of its kinds (11 R195).
-/

namespace Sys2Proof.Machine

/-! ## Raising an event (11 R190) -/

theorem raiseEvent_disabled {k : EventKind} {s : State} (h : s.events.enabled k = false) (detail : BitVec 24) :
    raiseEvent k detail s = s := by
  simp [raiseEvent, h]

theorem raiseEvent_enabled {k : EventKind} {s : State} (h : s.events.enabled k = true) (detail : BitVec 24) :
    raiseEvent k detail s =
      offerEvent (s.setEvents { s.events with queue := coalesce s.events.queue k detail }) := by
  simp [raiseEvent, h]

theorem offerEvent_waits {s : State} (h : s.events.outstanding ≠ none) : offerEvent s = s := by
  unfold offerEvent
  split
  · exact absurd ‹_› h
  · rfl

theorem offerEvent_offers {s : State} (ho : s.events.outstanding = none) (hq : s.events.queue ≠ []) :
    offerEvent s = arbitrate (s.setEvents { s.events with
      sequence := s.events.sequence + 1
      outstanding := some ⟨s.events.sequence + 1, .offered⟩ }) := by
  obtain ⟨r, rest, hr⟩ := List.exists_cons_of_ne_nil hq
  simp only [offerEvent, ho, hr]

theorem any_kind_eq_contains (queue : List EventRecord) (k : EventKind) :
    queue.any (·.kind == k) = (queue.map (·.kind)).contains k := by
  rw [Bool.eq_iff_iff]
  simp

theorem coalesce_eq (queue : List EventRecord) (k : EventKind) (detail : BitVec 24) :
    coalesce queue k detail = if (queue.map (·.kind)).contains k then
        queue.map fun r => if r.kind = k then { r with count := min 255 (r.count + 1) } else r
      else queue ++ [⟨k, 1, detail⟩] := by
  simp only [coalesce, any_kind_eq_contains, beq_iff_eq]

/-- A raise adds its kind where it is not queued. -/
theorem coalesce_kinds (queue : List EventRecord) (k : EventKind) (detail : BitVec 24) :
    (coalesce queue k detail).map (·.kind) =
      if k ∈ queue.map (·.kind) then queue.map (·.kind) else queue.map (·.kind) ++ [k] := by
  simp only [coalesce_eq, List.contains_iff_mem]
  split
  · rw [List.map_map]
    exact List.map_congr_left fun r _ => by dsimp only [Function.comp_apply]; split <;> rfl
  · rw [List.map_append]
    rfl

theorem coalesce_ne_nil (queue : List EventRecord) (k : EventKind) (detail : BitVec 24) :
    coalesce queue k detail ≠ [] := by
  intro h
  have hkinds := coalesce_kinds queue k detail
  rw [h] at hkinds
  split at hkinds
  · rename_i hk
    rw [← hkinds] at hk
    cases hk
  · simp at hkinds

/-- Settles O37: by the mask, then by the outstanding state. -/
theorem eventRaised : Obligations.EventRaised := by
  refine fun s k detail => ⟨fun h => raiseEvent_disabled h detail, fun h => ?_⟩
  rw [← coalesce_eq, raiseEvent_enabled h]
  exact ⟨fun o ho => offerEvent_waits (by simp [ho]), fun ho => offerEvent_offers ho (coalesce_ne_nil _ k detail)⟩

/-! ## EVENT_SET (11 R194) -/

theorem beyondKinds_getLsbD : ∀ i < 16, (0xF800#16).getLsbD i = decide (11 ≤ i) := by decide

/-- The eleven kinds have the mask bits 0 to 10. -/
theorem mask_onlyKinds_iff (mask : BitVec 16) : mask &&& 0xF800 = 0 ↔ mask.toNat < 0x0800 := by
  constructor
  · refine fun h => Nat.lt_pow_two_of_testBit (n := 11) _ fun i hi => ?_
    by_cases hi16 : i < 16
    · have hbit : mask.getLsbD i = false := by
        simpa [beyondKinds_getLsbD i hi16, hi] using congrArg (BitVec.getLsbD · i) h
      exact hbit
    · exact BitVec.getLsbD_of_ge mask i (Nat.le_of_not_lt hi16)
  · refine fun h => BitVec.eq_of_getLsbD_eq fun i hi => ?_
    by_cases hkind : 11 ≤ i
    · have hbit : mask.getLsbD i = false :=
        Nat.testBit_lt_two_pow (h.trans_le (Nat.pow_le_pow_right (by decide : 0 < 2) hkind))
      simp [hbit]
    · simp [beyondKinds_getLsbD i hi, hkind]

theorem exec_eventSet {s : State} (h : s.routes) (seq : Byte) (mask : BitVec 16) :
    exec (.eventSet seq mask) s = .next (eventSet seq mask s) :=
  congrArg Host.Outcome.next (manage_routed h (eventSet seq mask))

/-- Settles O29: by the mask's bits beyond the kinds; the queue by whether its head awaits acknowledgement. -/
theorem eventSetMasks : Obligations.EventSetMasks := by
  intro s seq mask hroutes
  rw [exec_eventSet hroutes]
  refine ⟨fun hbeyond => ?_, fun hkinds => ⟨(s.events.setMask mask).queue, ?_, fun o r rest ho hq => ?_, fun ho => ?_⟩⟩
  · rw [eventSet, if_pos (fun h => absurd ((mask_onlyKinds_iff mask).1 h) (Nat.not_lt.2 hbeyond))]
  · rw [eventSet, if_neg (not_not.2 ((mask_onlyKinds_iff mask).2 hkinds))]
    unfold Events.setMask
    split <;> rfl
  · simp only [Events.setMask, ho, hq, Events.enabled]
  · simp only [Events.setMask, ho, Events.enabled]

/-! ## EVENT_ACK, the last byte of an EVENT, the resend timer (11 R191 to R193) -/

theorem exec_eventAck {s : State} (h : s.routes) (seq acked : Byte) :
    exec (.eventAck seq acked) s = .next (eventAck seq acked s) :=
  congrArg Host.Outcome.next (manage_routed h (eventAck seq acked))

theorem eventAck_matching {s : State} {acked : Byte} {frame : EventFrame}
    (h : s.events.outstanding = some ⟨acked, frame⟩) (seq : Byte) :
    eventAck seq acked s = offerEvent (produceReply seq .ok (s.setEvents s.events.acknowledge)) := by
  simp [eventAck, h]

theorem eventAck_other {s : State} {acked : Byte} (h : ∀ frame, s.events.outstanding ≠ some ⟨acked, frame⟩)
    (seq : Byte) : eventAck seq acked s = produceReply seq .badSeq s := by
  refine if_neg fun hseq => ?_
  obtain ⟨⟨_, frame⟩, ho, rfl⟩ := Option.map_eq_some_iff.1 hseq
  exact h frame ho

theorem exec_eventSent {s : State} {seq : Byte} {kind : EventKind} {count : Nat} {detail : BitVec 24}
    (h : s.arb.ho = some (.event seq kind count detail)) : exec .eventSent s = .next (eventGone seq s) := by
  simp only [exec, execEventSent, h]

theorem eventGone_outstanding {s : State} {seq : Byte} (h : s.events.outstanding = some ⟨seq, .sending⟩) :
    eventGone seq s = arbitrate ((s.setArb { s.arb with ho := none }).setEvents { s.events with
      outstanding := some ⟨seq, .sent⟩
      resendTimer := if s.tables.eventResendS = 0 then none else some s.tables.eventResendS }) := by
  rw [eventGone, if_pos h]
  rfl

theorem eventGone_acknowledged {s : State} {seq : Byte} (h : s.events.outstanding ≠ some ⟨seq, .sending⟩) :
    eventGone seq s = arbitrate (s.setArb { s.arb with ho := none }) := by
  rw [eventGone, if_neg h]
  rfl

/-- Settles O38: by the outstanding sequence, by where the head record's frame stands, and by the timer. -/
theorem eventAckAndResend : Obligations.EventAckAndResend := by
  refine fun s => ⟨fun seq acked hroutes => ?_, fun seq kind count detail hho => ?_, fun ht ho => ?_⟩
  · rw [exec_eventAck hroutes]
    exact ⟨fun frame h => congrArg Host.Outcome.next (eventAck_matching h seq),
      fun h => congrArg Host.Outcome.next (eventAck_other h seq)⟩
  · rw [exec_eventSent hho]
    exact ⟨fun h => congrArg Host.Outcome.next (eventGone_outstanding h),
      fun h => congrArg Host.Outcome.next (eventGone_acknowledged h)⟩
  · exact if_pos ⟨ht, ho⟩

/-! ## The write-protect sense (11 R195) -/

theorem exec_wprotChange_unsensed {s : State} {active : Bool} (h : s.lines.reset = true ∨ s.pins.wprot = active) :
    exec (.wprotChange active) s = .next (s.setPins { s.pins with wprotPin := active }) :=
  if_pos h

/-- With the gate down the sense has no frame to tear and no request to end. -/
theorem senseChange_gateDown {s : State} (h : s.codec.wgate = false) (active : Bool) :
    senseChange active s =
      raiseEvent (if active then .wpAssert else .wpRelease) 0 (s.setPins { s.pins with wprot := active }) := by
  cases active with
  | false => rfl
  | true => simp [senseChange, dropGate, Codec.wprotReport, h]

/-- Settles O54: by whether the sense takes the level, and by the gate. -/
theorem wprotChangeActs : Obligations.WprotChangeActs := by
  refine fun s active => ⟨exec_wprotChange_unsensed, fun hr hw hg => ?_, fun op hr ha hw hg ho hd hreq => ?_⟩
  · have hsensed : ¬ (s.lines.reset = true ∨ s.pins.wprot = active) := by simp [hr, hw]
    have hsense := senseChange_gateDown (s := s.setWprotPin active) hg active
    simp only [exec, execWprotChange, if_neg hsensed, hsense]
    rw [afterEngine_same _ _ (by simp [State.setWprotPin])]
    rfl
  · subst ha
    have hq : op.req.isRead = false := by
      obtain ⟨_, _, _, h⟩ | ⟨_, h⟩ | ⟨_, _, _, h⟩ := hreq <;> simp [h, Request.isRead]
    rw [exec_wprotChange_gateUp s op ho hd hq hg hr hw]
    simp [Codec.toIdle]

end Sys2Proof.Machine
end

section
/-!
PROOFS. QUERY (11 R196): the 48 bytes of the status record, each field at its place, and the twelve counters CLEAR sets
to 0.
-/

namespace Sys2Proof.Machine

/-! ## Values in the record -/

/-- A 16-bit field holds a value modulo its size. -/
theorem beNat_be16_mod (n : Nat) : beNat (be16 n) = n % 65536 := by
  simp only [beNat, be16, List.foldl_cons, List.foldl_nil, byte_toNat]
  omega

/-- The FREE pages counted by number and counted as pages (04 R54). -/
theorem Buffer.freePages_length (b : Buffer) :
    b.freePages.length = b.pages.countP fun p => p.use == .free := by
  have counted (pages : List Page) :
      (List.range pages.length).countP (fun p => ((pages[p]?.map fun q => q.use).getD .free) == .free) =
        pages.countP fun p => p.use == .free := by
    induction pages with
    | nil => rfl
    | cons page pages ih =>
      simp only [List.length_cons, List.range_succ_eq_map, List.countP_cons, List.countP_map, Function.comp_def,
        List.getElem?_cons_succ, ih]
      rfl
  rw [Buffer.freePages, ← List.countP_eq_length_filter]
  exact counted b.pages

/-- The measured speed is 60,000,000 over the period, rounded, in at most 16 bits (07 R136). -/
theorem measuredRpm_rounds {m : Nat} (hm : 0 < m) : ∃ q, measuredRpm m = min 65535 q ∧
    2 * 60000000 < (2 * q + 1) * m ∧ (2 * q - 1) * m ≤ 2 * 60000000 := by
  refine ⟨(2 * 60000000 + m) / (2 * m), if_neg hm.ne', ?_⟩
  generalize hq : (2 * 60000000 + m) / (2 * m) = q
  obtain ⟨below, above⟩ := (Nat.div_eq_iff (by omega : 0 < 2 * m)).1 hq
  rw [Nat.sub_mul, Nat.add_mul, Nat.mul_assoc]
  rw [Nat.mul_left_comm] at below above
  omega

/-! ## Places in the record -/

section
variable {s : State} {k n : Nat}

theorem statusRecord_byte {b : Byte} (h : ((statusRecord s).drop k).take 1 = [b]) (hn : b.toNat = n) :
    beNat (((statusRecord s).drop k).take 1) = n := by
  rw [h, ← hn]
  exact Nat.zero_add _

theorem statusRecord_word {v : Nat} (h : ((statusRecord s).drop k).take 2 = be16 v) (hn : v % 65536 = n) :
    beNat (((statusRecord s).drop k).take 2) = n := by
  rw [h, beNat_be16_mod, hn]

theorem statusRecord_counter {c : BitVec 16} (h : ((statusRecord s).drop k).take 2 = be16 c.toNat) :
    beNat (((statusRecord s).drop k).take 2) = c.toNat :=
  statusRecord_word h (Nat.mod_eq_of_lt c.isLt)

end

/-! ## QUERY -/

theorem exec_query {s : State} (h : s.routes) (seq flags : Byte) :
    exec (.query seq flags) s = .next (query seq flags s) :=
  congrArg Host.Outcome.next (manage_routed h (query seq flags))

theorem onlyClear_iff (flags : Byte) : flags &&& 0xFE = 0 ↔ flags.toNat ≤ 1 := by
  revert flags
  decide

theorem query_otherFlag {flags : Byte} (h : 1 < flags.toNat) (seq : Byte) (s : State) :
    query seq flags s = produceReply seq (.rejected ⟨.field, 0⟩) s :=
  if_pos fun h0 => absurd ((onlyClear_iff flags).1 h0) (Nat.not_le.2 h)

theorem clearCounters_counters (s : State) : ∀ c ∈ s.clearCounters.counters, c = 0 := by
  simp [State.counters, State.clearCounters]

/-- Settles O28: the answer by the flags, then the record field by field. -/
theorem queryAnswers : Obligations.QueryAnswers := by
  intro s seq flags hroutes record field
  rw [exec_query hroutes]
  refine ⟨fun hother => congrArg _ (query_otherFlag hother seq s), fun hplain => by subst hplain; rfl,
    fun hclear => ⟨by subst hclear; rfl, clearCounters_counters _⟩, rfl, statusRecord_word rfl rfl,
    statusRecord_byte rfl rfl, statusRecord_byte rfl ?configured, statusRecord_byte rfl ?start,
    statusRecord_counter rfl, statusRecord_word rfl rfl, statusRecord_byte rfl ?spindle,
    fun hnone => statusRecord_word rfl ?untargeted, fun g hg => statusRecord_word rfl ?target,
    fun hstill => statusRecord_word rfl ?unmeasured, fun m hm hturns => ?measured,
    statusRecord_byte rfl (byte_toNat _), statusRecord_byte rfl ?positioner, statusRecord_byte rfl ?position,
    statusRecord_byte rfl ?wprot, statusRecord_byte rfl (byte_toNat _), statusRecord_byte rfl (byte_toNat _),
    statusRecord_byte rfl ?free, statusRecord_byte rfl (byte_toNat _), ?counters⟩
  case configured => cases h : s.tables.active <;> simp [Tables.configured, h]
  case start => cases h : s.tables.start <;> rfl
  case spindle => cases s.spindle.state <;> rfl
  case untargeted => simp [hnone]
  case target => simp [hg]
  case unmeasured => simp [hstill, measuredRpm]
  case measured =>
    subst hm
    obtain ⟨q, hq, hrounds⟩ := measuredRpm_rounds hturns
    refine ⟨q, statusRecord_word rfl ?_, hrounds⟩
    rw [hq]
    omega
  case positioner => cases s.pos.state <;> rfl
  case position =>
    rw [byte_toNat]
    cases s.pos.state <;> rfl
  case wprot => cases s.pins.wprot <;> rfl
  case free => rw [byte_toNat, Buffer.freePages_length]
  case counters =>
    exact ⟨statusRecord_counter rfl, statusRecord_counter rfl, statusRecord_counter rfl, statusRecord_counter rfl,
      statusRecord_counter rfl, statusRecord_counter rfl, statusRecord_counter rfl, statusRecord_counter rfl,
      statusRecord_counter rfl, statusRecord_counter rfl, statusRecord_counter rfl, statusRecord_counter rfl,
      statusRecord_counter rfl⟩

end Sys2Proof.Machine
end

section
/-!
PROOFS. What every command keeps of the event unit (11 R189, R191, R194). Only a raise, EVENT_SET, EVENT_ACK and a reset
change which kinds are queued, the mask, or whether the head is outstanding, which `offersOf` reads; every other
operation leaves the three as they are.
-/

namespace Sys2Proof.Machine

/-! ## What `EventsSound` reads -/

/-- The kinds queued, oldest first, the mask, and whether the head is outstanding. -/
structure Offers where
  kinds : List EventKind
  mask : BitVec 16
  outstanding : Bool

def Events.offers (e : Events) : Offers := ⟨e.queue.map (·.kind), e.mask, e.outstanding.isSome⟩

structure Offers.Sound (a : Offers) : Prop where
  distinct : a.kinds.Nodup
  offered : a.outstanding = true ↔ a.kinds ≠ []
  mask : a.mask &&& 0xF800 = 0

def offersOf (s : State) : Offers := s.events.offers

theorem eventsSound_iff (s : State) : EventsSound s ↔ (offersOf s).Sound := by
  have hoffered : (s.events.outstanding = none ↔ s.events.queue = []) ↔
      ((offersOf s).outstanding = true ↔ (offersOf s).kinds ≠ []) := by
    cases ho : s.events.outstanding <;> simp [offersOf, Events.offers, ho]
  exact ⟨fun ⟨hd, ho, hm⟩ => ⟨hd, hoffered.1 ho, hm⟩, fun ⟨hd, ho, hm⟩ => ⟨hd, hoffered.2 ho, hm⟩⟩

/-- An event unit that has nothing queued and nothing outstanding. -/
theorem Events.empty_sound {e : Events} (hq : e.queue = []) (ho : e.outstanding = none) (hm : e.mask &&& 0xF800 = 0) :
    e.offers.Sound := by
  refine ⟨?_, ?_, hm⟩ <;> simp [Events.offers, hq, ho]

/-! ## Replacing one block's state -/

section
variable (s : State)

@[simp] theorem offersOf_setLines (x : Lines) : offersOf (s.setLines x) = offersOf s := by simp [offersOf]
@[simp] theorem offersOf_setLink (x : Link) : offersOf (s.setLink x) = offersOf s := by simp [offersOf]
@[simp] theorem offersOf_setArb (x : Arbiter) : offersOf (s.setArb x) = offersOf s := by simp [offersOf]
@[simp] theorem offersOf_setQueue (x : Queue) : offersOf (s.setQueue x) = offersOf s := by simp [offersOf]
@[simp] theorem offersOf_setBuffer (x : Buffer) : offersOf (s.setBuffer x) = offersOf s := by simp [offersOf]
@[simp] theorem offersOf_setTables (x : Tables) : offersOf (s.setTables x) = offersOf s := by simp [offersOf]
@[simp] theorem offersOf_setEngine (x : Engine) : offersOf (s.setEngine x) = offersOf s := by simp [offersOf]
@[simp] theorem offersOf_setCodec (x : Codec) : offersOf (s.setCodec x) = offersOf s := by simp [offersOf]
@[simp] theorem offersOf_setSpindle (x : Spindle) : offersOf (s.setSpindle x) = offersOf s := by simp [offersOf]
@[simp] theorem offersOf_setPos (x : Positioner) : offersOf (s.setPos x) = offersOf s := by simp [offersOf]
@[simp] theorem offersOf_setPins (x : Pins) : offersOf (s.setPins x) = offersOf s := by simp [offersOf]

@[simp] theorem offersOf_setEvents (x : Events) : offersOf (s.setEvents x) = x.offers := rfl

end

/-! ## The event unit's own operations -/

section
variable (s : State)

@[simp] theorem offersOf_arbitrate : offersOf (arbitrate s) = offersOf s := by simp [offersOf, Events.offers]

/-- Distinct kinds with the head outstanding, or offered now, are sound (11 R191). -/
theorem offerEvent_offersSound (hd : (offersOf s).kinds.Nodup) (hm : (offersOf s).mask &&& 0xF800 = 0)
    (ho : (offersOf s).outstanding = true → (offersOf s).kinds ≠ []) : (offersOf (offerEvent s)).Sound := by
  unfold offerEvent
  split
  · rename_i _ _ hq
    rw [offersOf_arbitrate]
    exact ⟨hd, iff_of_true rfl (by simp [offersOf, Events.offers, hq]), hm⟩
  · rename_i hnone
    refine ⟨hd, ⟨ho, fun hkinds => ?_⟩, hm⟩
    obtain ⟨r, rest, hq⟩ : ∃ r rest, s.events.queue = r :: rest :=
      List.exists_cons_of_ne_nil (by simpa [offersOf, Events.offers] using hkinds)
    exact Option.isSome_iff_ne_none.2 fun hout => hnone r rest hout hq

/-- A raise queues no second record of its kind (11 R190). -/
theorem coalesce_nodup {queue : List EventRecord} (h : (queue.map (·.kind)).Nodup) (k : EventKind)
    (detail : BitVec 24) : ((coalesce queue k detail).map (·.kind)).Nodup := by
  rw [coalesce_kinds]
  split
  · exact h
  · exact List.nodup_append_comm.1 (List.nodup_cons.2 ⟨‹_›, h⟩)

@[simp] theorem raiseEvent_offersSound (h : (offersOf s).Sound) (k : EventKind) (detail : BitVec 24) :
    (offersOf (raiseEvent k detail s)).Sound := by
  unfold raiseEvent
  split
  · refine offerEvent_offersSound _ (coalesce_nodup h.distinct k detail) h.mask fun _ => ?_
    simpa [Events.offers] using coalesce_ne_nil _ _ _
  · exact h

/-- The head in AWAITING_ACK stays under every mask (11 R194). -/
theorem Events.setMask_sound {e : Events} (h : e.offers.Sound) {mask : BitVec 16} (hm : mask &&& 0xF800 = 0) :
    (e.setMask mask).offers.Sound := by
  obtain ⟨queue, _, _, outstanding, _⟩ := e
  have hoffered := h.offered
  cases outstanding with
  | none =>
    have hq : queue = [] := by simpa [Events.offers] using hoffered
    exact Events.empty_sound (by simp [Events.setMask, hq]) (by simp [Events.setMask]) (by simpa [Events.setMask])
  | some o =>
    cases queue with
    | nil => simp [Events.offers] at hoffered
    | cons r rs =>
      refine ⟨h.distinct.sublist ?_, iff_of_true rfl (List.cons_ne_nil _ _), hm⟩
      exact (List.filter_sublist.cons_cons r).map _

@[simp] theorem offersOf_freeLane : offersOf (freeLane s) = offersOf s := by simp [freeLane]

@[simp] theorem offersOf_produceReply (seq : Byte) (body : ReplyBody) :
    offersOf (produceReply seq body s) = offersOf s := by simp [produceReply]

end

/-! ## Frames, pages and DONE -/

section
variable (s : State)

@[simp] theorem offersOf_produceDoneCall (f : DoneCall) : offersOf (produceDoneCall f s) = offersOf s := by
  simp [produceDoneCall]

@[simp] theorem offersOf_offerBlock (p : Nat) : offersOf (offerBlock p s) = offersOf s := by
  simp [offerBlock]

@[simp] theorem offersOf_setReqState (tag : Tag) (st : ReqState) :
    offersOf (s.setReqState tag st) = offersOf s := rfl

@[simp] theorem offersOf_leaveAwaitData (tag : Tag) : offersOf (s.leaveAwaitData tag) = offersOf s := rfl

@[simp] theorem offersOf_afterGrant (r : Record) : offersOf (afterGrant r s) = offersOf s := by
  unfold afterGrant
  split <;> simp

@[simp] theorem offersOf_grant : offersOf (grant s) = offersOf s := by
  unfold grant
  generalize s.buffer.fifo.length = fuel
  induction fuel generalizing s with
  | zero => rfl
  | succ fuel ih =>
    unfold grantLoop
    split
    · rfl
    · split
      · rfl
      · split
        · rfl
        · simp [ih, takePages]

@[simp] theorem offersOf_produceDone (tag : Tag) (report : DoneReport) :
    offersOf (produceDone tag report s) = offersOf s := by
  simp [produceDone]

end

/-! ## The codec, the spindle and the positioner, where they raise nothing -/

section
variable (s : State)

@[simp] theorem offersOf_codecIdle : offersOf s.codecIdle = offersOf s := by simp [offersOf]

@[simp] theorem offersOf_setReader (r : Reader) : offersOf (s.setReader r) = offersOf s := by simp [offersOf]

@[simp] theorem offersOf_codecArm (target : SectorId) (action : Action) :
    offersOf (codecArm target action s) = offersOf s := by simp [offersOf]

@[simp] theorem offersOf_codecTrackWrite (c h z : Nat) : offersOf (codecTrackWrite c h z s) = offersOf s := by
  simp [offersOf]

@[simp] theorem offersOf_codecStop : offersOf (codecStop s) = offersOf s := by simp [offersOf]

@[simp] theorem offersOf_requestSpeed (rpm zone : Nat) : offersOf (requestSpeed rpm zone s) = offersOf s := by
  simp [offersOf]

@[simp] theorem offersOf_requestStop : offersOf (requestStop s) = offersOf s := by simp [offersOf]

@[simp] theorem offersOf_takeRecal : offersOf (takeRecal s) = offersOf s := by simp [offersOf]

@[simp] theorem offersOf_askPosition (c : Nat) : offersOf (askPosition c s).1 = offersOf s := by simp [offersOf]

@[simp] theorem offersOf_finishMovement (r : PosReport) : offersOf (finishMovement r s).1 = offersOf s := by
  simp [offersOf]

@[simp] theorem offersOf_keepDecoded (action : Action) (data : List Byte) :
    offersOf (keepDecoded action data s) = offersOf s := by simp [offersOf]

end

/-! ## The media engine, where it raises nothing -/

section
variable (s : State) (op : Op)

@[simp] theorem offersOf_setOp : offersOf (s.setOp op) = offersOf s := by simp [offersOf]

@[simp] theorem offersOf_finish (status : Status) (failing : Option (BitVec 32)) :
    offersOf (finish op status failing s) = offersOf s := by
  unfold finish settlePages
  cases op.req.isRead with
  | false => simp
  | true => dsimp only; split <;> simp [enterDrain]

@[simp] theorem offersOf_endWith (status : Status) : offersOf (endWith op status s) = offersOf s :=
  offersOf_finish s op status none

@[simp] theorem offersOf_armPass : offersOf (armPass op s) = offersOf s := by simp [armPass]

@[simp] theorem offersOf_giveTrackWrite : offersOf (giveTrackWrite op s) = offersOf s := by simp [giveTrackWrite]

@[simp] theorem offersOf_suspendPass : offersOf (suspendPass op s) = offersOf s := by simp [suspendPass]

@[simp] theorem offersOf_startAccess : offersOf (startAccess op s) = offersOf s := by
  unfold startAccess
  cases op.purpose with
  | read | discard | compare | formatVerify => simp
  | write | trackWrite => cases s.pins.wprot <;> simp

@[simp] theorem offersOf_closeIfReady : offersOf (closeIfReady op s) = offersOf s := by
  unfold closeIfReady
  split <;> simp

@[simp] theorem offersOf_openBoth : offersOf (openBoth op s) = offersOf s := by simp [openBoth, askSpeed]

@[simp] theorem offersOf_reopenPosition : offersOf (reopenPosition op s) = offersOf s := by
  simp [reopenPosition]

@[simp] theorem offersOf_startTrial (chain : Chain) : offersOf (startTrial op chain s) = offersOf s := by
  unfold startTrial
  split <;> simp

@[simp] theorem offersOf_startChain : offersOf (startChain op s) = offersOf s := offersOf_startTrial _ _ _

@[simp] theorem offersOf_translateBlock (p : Purpose) : offersOf (translateBlock p op s) = offersOf s := by
  unfold translateBlock
  dsimp only
  cases op.req with
  | write | reassign => dsimp only; split <;> simp
  | read | verify | format | recal | spin => simp

@[simp] theorem offersOf_completeBlock : offersOf (completeBlock op s) = offersOf s := by
  unfold completeBlock
  dsimp only
  split
  · simp
  · split <;> simp

@[simp] theorem offersOf_readFailed (why : PassFailure) : offersOf (readFailed why op s) = offersOf s := by
  unfold readFailed
  dsimp only
  split <;> simp

@[simp] theorem offersOf_nextFormatSector (k : Nat) : offersOf (nextFormatSector k op s) = offersOf s := by
  unfold nextFormatSector
  split <;> simp

@[simp] theorem offersOf_formatReadFailed (k : Nat) : offersOf (formatReadFailed k op s) = offersOf s :=
  offersOf_nextFormatSector _ _ _

@[simp] theorem offersOf_trackOverran : offersOf (trackOverran op s) = offersOf s := by
  unfold trackOverran
  dsimp only
  split <;> simp

@[simp] theorem offersOf_deliverPage : offersOf (deliverPage op s) = offersOf s := by simp [deliverPage]

@[simp] theorem offersOf_sectorWritten : offersOf (sectorWritten op s) = offersOf s := by
  unfold sectorWritten
  split <;> simp

@[simp] theorem offersOf_trackWritten : offersOf (trackWritten op s) = offersOf s := by
  unfold trackWritten
  split <;> simp

@[simp] theorem offersOf_resumePass : offersOf (resumePass op s) = offersOf s := by
  unfold resumePass
  cases op.purpose <;> simp

@[simp] theorem offersOf_beginOp (tag : Tag) (req : Request) : offersOf (beginOp tag req s) = offersOf s := by
  unfold beginOp
  cases req with
  | read | write | verify | reassign => simp
  | format => unfold beginFormat; dsimp only; split <;> simp
  | recal => simp
  | spin mode =>
    unfold beginSpinUp beginSpinDown askSpeed
    dsimp only
    split <;> split <;> simp

end

/-! ## Selections (05 R78) -/

@[simp] theorem offersOf_schedule (s : State) : offersOf (schedule s) = offersOf s := by
  unfold schedule
  generalize s.queue.records.length = fuel
  induction fuel generalizing s with
  | zero => rfl
  | succ fuel ih =>
    unfold scheduleLoop
    split
    · rfl
    · split
      · rfl
      · simp [ih]

@[simp] theorem offersOf_afterEngine (s t : State) : offersOf (afterEngine s t) = offersOf t := by
  unfold afterEngine
  split <;> simp

/-! ## Operations that raise (07 R135; 08 R150; 03 R52; 09 R170) -/

section
variable (s : State) (op : Op) (h : (offersOf s).Sound)
include h

@[simp] theorem positionFaultReport_offersSound : (offersOf (positionFaultReport s)).Sound := by
  unfold positionFaultReport
  split <;> simp [h]

@[simp] theorem raiseGrowth_offersSound (lba zone : Nat) : (offersOf (raiseGrowth lba zone s)).Sound := by
  unfold raiseGrowth
  dsimp only
  split <;> simp [h]

@[simp] theorem lockSpindle_offersSound : (offersOf (lockSpindle s)).Sound := by simp [lockSpindle, h]

@[simp] theorem loseSpindle_offersSound (detail : BitVec 24) : (offersOf (loseSpindle detail s)).Sound := by
  simp [loseSpindle, h]

@[simp] theorem faultSpindle_offersSound (detail : BitVec 24) : (offersOf (faultSpindle detail s)).Sound := by
  simp [faultSpindle, h]

@[simp] theorem restSpindle_offersSound : (offersOf (restSpindle s)).Sound := by simp [restSpindle, h]

@[simp] theorem stepExpiry_offersSound (trk0 : Bool) : (offersOf (stepExpiry trk0 s).1).Sound := by
  unfold stepExpiry
  cases s.pos.state with
  | stepping => dsimp only; split <;> simp [h]
  | recalibrating => dsimp only; split <;> [skip; split] <;> simp [h]
  | unknown | idle | settling => exact h

@[simp] theorem settleExpiry_offersSound (trk0 : Bool) : (offersOf (settleExpiry trk0 s).1).Sound := by
  unfold settleExpiry
  cases s.pos.state with
  | settling => dsimp only; split <;> simp [h]
  | unknown | idle | stepping | recalibrating => exact h

@[simp] theorem countBadCrc_offersSound : (offersOf (countBadCrc s)).Sound := by simp [countBadCrc, h]

@[simp] theorem countBadLength_offersSound : (offersOf (countBadLength s)).Sound := by simp [countBadLength, h]

@[simp] theorem countOverrun_offersSound : (offersOf (countOverrun s)).Sound := by simp [countOverrun, h]

@[simp] theorem slotFailed_offersSound (chain : Chain) : (offersOf (slotFailed op chain s)).Sound := by
  unfold slotFailed
  dsimp only
  split
  · simp [h]
  · split <;> simp [h]

@[simp] theorem slotSucceeded_offersSound (chain : Chain) : (offersOf (slotSucceeded op chain s)).Sound := by
  unfold slotSucceeded
  split <;> simp [h]

@[simp] theorem writeFailed_offersSound (why : PassFailure) : (offersOf (writeFailed why op s)).Sound := by
  unfold writeFailed
  dsimp only
  split
  · cases s.pins.wprot <;> simp [h]
  · cases op.chain with
    | some chain => simp [h]
    | none => dsimp only; split <;> simp [h]

@[simp] theorem passFailed_offersSound (why : PassFailure) : (offersOf (passFailed why op s)).Sound := by
  unfold passFailed
  cases op.purpose <;> simp [h]

@[simp] theorem passGood_offersSound : (offersOf (passGood op s)).Sound := by
  unfold passGood
  cases op.purpose with
  | compare => cases op.chain <;> simp [h]
  | read | discard | formatVerify | write | trackWrite => simp [h]

@[simp] theorem positionFault_offersSound (seen : Bool) : (offersOf (positionFault seen op s)).Sound := by
  unfold positionFault
  dsimp only
  cases seen <;> split <;> simp [h]

@[simp] theorem gateStopped_offersSound (cause : GateCause) : (offersOf (gateStopped cause op s)).Sound := by
  cases cause <;> simp [gateStopped, h]

@[simp] theorem huntExpires_offersSound : (offersOf (huntExpires op s)).Sound := by
  unfold huntExpires
  cases s.codec.mode <;> simp [h]

end

/-! ## Reports to the engine -/

section
variable (s : State)

@[simp] theorem offersOf_lockedReport : offersOf (lockedReport s) = offersOf s := by
  unfold lockedReport
  split
  · rfl
  · split
    · split <;> simp
    · rfl

@[simp] theorem offersOf_lockLostReport : offersOf (lockLostReport s) = offersOf s := by
  unfold lockLostReport
  split
  · rfl
  · split <;> simp

@[simp] theorem offersOf_timeoutReport : offersOf (timeoutReport s) = offersOf s := by
  unfold timeoutReport
  split
  · rfl
  · split <;> simp

@[simp] theorem offersOf_stoppedReport : offersOf (stoppedReport s) = offersOf s := by
  unfold stoppedReport
  split
  · rfl
  · split <;> simp

@[simp] theorem offersOf_addressMatched : offersOf (addressMatched s) = offersOf s := by
  unfold addressMatched
  split
  · rfl
  · split <;> simp

@[simp] theorem offersOf_revolutionTold : offersOf (revolutionTold s) = offersOf s := rfl

variable (h : (offersOf s).Sound)
include h

@[simp] theorem positionReport?_offersSound (r : Option PosReport) : (offersOf (positionReport? r s)).Sound := by
  cases r with
  | none => exact h
  | some r =>
    unfold positionReport? positionReport
    dsimp only
    split
    · exact h
    · cases r with
      | settled | seekFault | refused | recalFailed => dsimp only; split <;> simp [h]
      | recalDone => dsimp only; split <;> [skip; split] <;> simp [h]

@[simp] theorem addressSeen_offersSound (id : SectorId) : (offersOf (addressSeen id s)).Sound := by
  unfold addressSeen
  split
  · exact h
  · split <;> simp [h]

@[simp] theorem addressReport_offersSound (id : SectorId) : (offersOf (addressReport id s)).Sound := by
  unfold addressReport
  split
  · exact h
  · split <;> simp [h]

@[simp] theorem codecReport_offersSound (r : CodecReport) : (offersOf (codecReport r s)).Sound := by
  unfold codecReport
  split
  · exact h
  · cases r with
    | read o => cases o <;> simp [h]
    | written | trackDone | refused | torn | abandoned => simp [h]

/-! ## The codec's commands, the write-protect sense and the spindle -/

@[simp] theorem addressEnd_offersSound (target : SectorId) (action : Action) (r : AddressRead) :
    (offersOf (addressEnd target action r s)).Sound := by
  cases r with
  | more | fault | badCheck => exact h
  | good id => dsimp only [addressEnd]; split <;> simp [matchTarget, h]

@[simp] theorem dataEnd_offersSound (action : Action) (r : DataRead) : (offersOf (dataEnd action r s)).Sound := by
  cases r <;> simp [dataEnd, endDecodeFault, State.countDecodeFault, h]

@[simp] theorem gapEnd_offersSound (target : SectorId) (ref : DataRef) :
    (offersOf (gapEnd target ref s)).Sound := by
  unfold gapEnd
  split <;> simp [h]

@[simp] theorem senseChange_offersSound (active : Bool) : (offersOf (senseChange active s)).Sound := by
  cases active with
  | false => simp [senseChange, h]
  | true =>
    simp only [senseChange, if_true, dropGate]
    split <;> simp [h]

@[simp] theorem becomeLocked_offersSound : (offersOf (becomeLocked s)).Sound := by simp [becomeLocked, h]

@[simp] theorem becomeLost_offersSound (detail : BitVec 24) : (offersOf (becomeLost detail s)).Sound := by
  unfold becomeLost codecLockLost
  split <;> simp [h]

@[simp] theorem codecPulse_offersSound (ns : Nat) : (offersOf (codecPulse ns s)).Sound := by
  unfold codecPulse
  split
  · split <;> simp [h]
  · dsimp only
    split
    · exact h
    · split <;> simp [h]
  all_goals exact h

theorem closeRevolution_offersSound (m : Nat) : (offersOf (closeRevolution m s)).Sound := by
  rw [closeRevolution_eq m s _ rfl, offersOf_revolutionTold]
  split
  · simp [h]
  · split <;> simp [h]

@[simp] theorem spindlePulse_offersSound (ns : Nat) : (offersOf (spindlePulse ns s)).Sound := by
  unfold spindlePulse
  cases s.spindle.state with
  | stopped | stopping => exact h
  | starting | locked | retargeting | lost =>
    dsimp only
    split
    · exact h
    · exact closeRevolution_offersSound _ (by exact h) _

/-! ## Frames of the host -/

@[simp] theorem takeRequest_offersSound (tag : Tag) (req : Request) : (offersOf (takeRequest tag req s)).Sound := by
  unfold takeRequest
  split
  · exact h
  · split
    · exact h
    · unfold accept enterWaiting
      dsimp only
      split
      · simp [h]
      · split <;> simp [h]

@[simp] theorem takeBlock_offersSound (tag : Tag) (index : Byte) (data : List Byte) :
    (offersOf (takeBlock tag index data s)).Sound := by
  have filled : offersOf (fillBlock tag index.toNat data s) = offersOf s := by
    unfold fillBlock
    dsimp only
    split <;> rfl
  unfold takeBlock bufferBlock
  split
  · exact h
  · split
    · split
      · dsimp only
        split <;> simp [writeReady, filled, h]
      · exact h
    · simp [h]

theorem manage_offersSound (act : State → State) (ha : (offersOf (act s)).Sound) :
    (offersOf (manage act s)).Sound := by
  unfold manage
  split
  · exact h
  · split
    · exact ha
    · simp [h]

end

/-! ## Management frames (09 R158; 10 R173 to R186; 11 R192, R194) -/

section
variable (s : State) (seq : Byte)

@[simp] theorem offersOf_loadOpen (table : Byte) : offersOf (loadOpen seq table s) = offersOf s := by
  unfold loadOpen
  split
  · simp
  · split <;> simp

@[simp] theorem offersOf_stopLoad (id : TableId) (r : Rejection) : offersOf (stopLoad seq id r s) = offersOf s := by
  unfold stopLoad
  dsimp only
  split <;> simp

@[simp] theorem offersOf_loadPut (bytes : List Byte) : offersOf (loadPut seq bytes s) = offersOf s := by
  unfold loadPut
  split
  · simp
  · dsimp only
    split
    · simp
    · split <;> simp

@[simp] theorem offersOf_loadClose : offersOf (loadClose seq s) = offersOf s := by
  unfold loadClose
  split
  · simp
  · dsimp only
    split
    · simp
    · split <;> simp

@[simp] theorem offersOf_loadDrop (table : Byte) : offersOf (loadDrop seq table s) = offersOf s := by
  unfold loadDrop
  split <;> simp

@[simp] theorem offersOf_tableGet (table first : Byte) : offersOf (tableGet seq table first s) = offersOf s := by
  unfold tableGet
  split <;> simp

@[simp] theorem offersOf_wipe : offersOf (wipe seq s) = offersOf s := by
  unfold wipe
  split <;> simp

@[simp] theorem offersOf_clearCounters : offersOf s.clearCounters = offersOf s := rfl

@[simp] theorem offersOf_query (flags : Byte) : offersOf (query seq flags s) = offersOf s := by
  unfold query
  dsimp only
  split
  · simp
  · split <;> simp

@[simp] theorem offersOf_markAbort : offersOf (markAbort s) = offersOf s := by
  unfold markAbort
  split <;> simp

@[simp] theorem offersOf_removeWaiting (r : Record) : offersOf (removeWaiting r s) = offersOf s := by
  unfold removeWaiting
  cases r.state <;> simp

@[simp] theorem offersOf_abort (tag : Tag) : offersOf (abort seq tag s) = offersOf s := by
  unfold abort
  split
  · simp
  · split <;> simp

variable (h : (offersOf s).Sound)
include h

theorem commit_offersSound : (offersOf (commit seq s)).Sound := by
  unfold commit
  split
  · simp [h]
  · split
    · simp [h]
    · split
      · split <;> simp [installSet, h]
      · simp [h]

theorem eventSet_offersSound (mask : BitVec 16) : (offersOf (eventSet seq mask s)).Sound := by
  unfold eventSet
  split
  · simp [h]
  · rw [offersOf_produceReply]
    exact Events.setMask_sound h (not_not.1 ‹_›)

/-- The next record is offered as the head is acknowledged (11 R192). -/
theorem eventAck_offersSound (acked : Byte) : (offersOf (eventAck seq acked s)).Sound := by
  unfold eventAck
  split
  · have hoffers : offersOf (produceReply seq .ok (s.setEvents s.events.acknowledge)) =
        ⟨(offersOf s).kinds.drop 1, (offersOf s).mask, false⟩ := by
      rw [offersOf_produceReply, offersOf_setEvents]
      simp [offersOf, Events.offers, Events.acknowledge]
    apply offerEvent_offersSound <;> rw [hoffers]
    · exact h.distinct.sublist (List.drop_sublist _ _)
    · exact h.mask
    · exact nofun
  · simp [h]

/-! ## HI -/

theorem takeLoadPut_offersSound (entries : List Byte) : (offersOf (takeLoadPut seq entries s)).Sound := by
  unfold takeLoadPut
  split
  · exact h
  · split
    · exact manage_offersSound s h _ (by simpa using h)
    · simp [h]

theorem deliver_offersSound (i : Instr) : (offersOf (deliver i s)).Sound := by
  cases i with
  | read | write | verify | format | reassign | recal | spin | block => simp [deliver, h]
  | loadPut seq entries => exact takeLoadPut_offersSound s seq h entries
  | loadOpen | loadClose | loadDrop | tableGet | wipe | query | abort =>
    exact manage_offersSound s h _ (by simpa using h)
  | commit seq => exact manage_offersSound s h _ (commit_offersSound s seq h)
  | eventSet seq mask => exact manage_offersSound s h _ (eventSet_offersSound s seq h mask)
  | eventAck seq acked => exact manage_offersSound s h _ (eventAck_offersSound s seq h acked)
  | _ => exact h

theorem judge_offersSound (len : Nat) (bytes : List Byte) : (offersOf (judge len bytes s)).Sound := by
  unfold judge
  split
  · simp [h]
  · split
    · split
      · exact deliver_offersSound s h _
      · simp [h]
    · simp [h]

theorem takeByte_offersSound (b : Byte) : (offersOf (takeByte b s)).Sound := by
  unfold takeByte receiveByte
  split
  · exact h
  · split
    · split <;> exact h
    · exact h
    · split
      · exact h
      · simp [State.setRx, h]
    · split
      · exact h
      · exact judge_offersSound _ (by exact h) _ _

end

/-! ## HO and the resend timer -/

section
variable (s : State)

@[simp] theorem offersOf_noticeGone : offersOf (noticeGone s) = offersOf s := by simp [noticeGone]

@[simp] theorem offersOf_replyGone : offersOf (replyGone s) = offersOf s := by simp [replyGone]

@[simp] theorem offersOf_doneGone (tag : Tag) : offersOf (doneGone tag s) = offersOf s := by simp [doneGone]

@[simp] theorem offersOf_callGone (tag : Tag) : offersOf (callGone tag s) = offersOf s := by simp [callGone]

@[simp] theorem offersOf_pageGone (tag : Tag) (page : Nat) : offersOf (pageGone tag page s) = offersOf s := by
  unfold pageGone drained
  split
  · split
    · split <;> simp
    · simp
  · simp

/-- A frame sent leaves its record outstanding (11 R191). -/
@[simp] theorem offersOf_eventGone (seq : Byte) : offersOf (eventGone seq s) = offersOf s := by
  unfold eventGone
  rw [offersOf_freeLane, offersOf_setEvents]
  split
  · rename_i ho
    simp [offersOf, Events.offers, ho]
  · rfl

theorem offersOf_resendHead (ho : s.events.outstanding.isSome = true) : offersOf (resendHead s) = offersOf s := by
  simp [resendHead, offersOf, Events.offers, ho]

/-! ## Resets (11 R197) -/

@[simp] theorem offersOf_produceNotice : offersOf (produceNotice s) = offersOf s := by
  unfold produceNotice
  split <;> simp

theorem hardReset_offersSound (pins : Pins) : (offersOf (s.hardReset pins)).Sound :=
  Events.empty_sound rfl rfl (show 0x07FF#16 &&& 0xF800#16 = 0#16 by decide)

theorem takenBefore_offersSound (h : (offersOf s).Sound) (bits : List Bool) :
    (offersOf (takenBefore bits s)).Sound := by
  unfold takenBefore
  split
  · split
    · exact h
    · exact h
    · exact h
    · split <;> simp [h]
  all_goals exact h

theorem assertLrst_offersSound (h : (offersOf s).Sound) : (offersOf (assertLrst s)).Sound :=
  Events.empty_sound rfl rfl h.mask

end

/-! ## The commands -/

theorem exec_offersSound (i : Instr) (s t : State) (h : (offersOf s).Sound) (he : exec i s = .next t) :
    (offersOf t).Sound := by
  by_cases hf : (encodeFrame i).isSome = true
  · rw [exec_hostFrame i s hf] at he
    cases he
    exact deliver_offersSound s h i
  cases i with
  | powerOn =>
    cases he
    rw [offersOf_produceNotice, offersOf_setLines]
    exact hardReset_offersSound s _
  | reset =>
    simp only [exec, execReset] at he
    split at he <;> cases he
    · exact h
    · exact hardReset_offersSound s s.pins
  | lrst bits =>
    simp only [exec, execLrst] at he
    split at he <;> cases he
    · exact h
    · exact assertLrst_offersSound _ (takenBefore_offersSound s h bits)
  | resetRelease line =>
    simp only [exec, execResetRelease] at he
    split at he <;> cases he
    · split <;> simpa using h
    · exact h
  | hiByte bits =>
    simp only [exec, execHiByte] at he
    split at he <;> cases he
    · exact h
    · exact takeByte_offersSound _ (by exact h) _
  | read | write | verify | format | reassign | recal | spin | block | loadPut | abort | loadOpen | loadClose
  | loadDrop | commit | tableGet | wipe | query | eventSet | eventAck => exact absurd rfl hf
  | noticeSent | replySent | doneSent | callSent | blockSent | eventSent =>
    simp only [exec, execNoticeSent, execReplySent, execDoneSent, execCallSent, execBlockSent, execEventSent] at he
    split at he <;> cases he
    · simpa using h
    · exact h
  | resendTimeout =>
    simp only [exec, execResendTimeout] at he
    split at he <;> cases he
    · rename_i hruns
      exact offersOf_resendHead s hruns.2 ▸ h
    · exact h
  | dataTimeout | enterLocked | enterLost | stallTimeout | spinupTimeout | retargetTimeout | silenceTimeout
  | idleTimeout | stepTimerExpiry | settleTimerExpiry =>
    simp only [exec, execDataTimeout, execEnterLocked, execEnterLost, execStallTimeout, execSpinupTimeout,
      execRetargetTimeout, execSilenceTimeout, execIdleTimeout, execStepTimerExpiry, execSettleTimerExpiry] at he
    split at he <;> cases he
    · simp [h]
    · exact h
  | addressFieldEnd bits =>
    simp only [exec, execAddressFieldEnd] at he
    split at he <;> cases he
    · simp [h]
    all_goals exact h
  | huntTimeout =>
    simp only [exec, execHuntTimeout] at he
    split at he
    · split at he <;> cases he
      · simp [h]
      · exact h
    · cases he
      exact h
  | dataMarkTimeout | dataReadEnd | gap2End | written =>
    simp only [exec, execDataMarkTimeout, execDataReadEnd, execGap2End, execWritten] at he
    split at he <;> cases he
    · simp [h]
    all_goals exact h
  | tachPulse ns =>
    cases he
    simp [h]
  | wprotChange active =>
    simp only [exec, execWprotChange] at he
    split at he <;> cases he
    · exact h
    · rw [offersOf_afterEngine]
      exact senseChange_offersSound _ (by exact h) _
  | vretLoss =>
    cases he
    exact h

/-- Settles O5: a kind joins the queue only where it is not queued, the head is offered as soon as nothing is
outstanding, and nothing else reaches the event unit but its frames and resets. -/
theorem eventsSoundKept : Obligations.EventsSoundKept := by
  intro s t h hs
  rw [eventsSound_iff] at h ⊢
  unfold step at hs
  split at hs
  · cases hs
    exact h
  · exact exec_offersSound _ _ t (by exact h) hs

end Sys2Proof.Machine
end

section
/-!
PROOFS. The step (log entry 2): it takes the front of the queue, and no command of the model faults or is refused.
-/

namespace Sys2Proof.Machine

/-! ## The queue -/

theorem step_of_pending {s : State} {c : Instr} {rest : List Instr} (h : s.pending = c :: rest) :
    step s = exec c (s.setPending rest) := by
  simp only [step, h]

theorem step_of_idle {s : State} (h : s.pending = []) : step s = .next s := by
  simp only [step, h]

/-! ## The commands -/

/-- A guarded meaning answers with its guard met and with it not met. -/
theorem guarded_answers (p : Prop) [Decidable p] (met unmet : State) :
    ∃ t, (if p then .next met else .next unmet : Result) = .next t :=
  ⟨if p then met else unmet, (apply_ite Host.Outcome.next p met unmet).symm⟩

/-- Every command answers a next state: a host frame whatever its owner makes of it, and every other command in each
form of what it reads, be it a guard, the frame on HO, the bit receiver or the codec's mode. -/
theorem exec_answers (c : Instr) (s : State) : ∃ t, exec c s = .next t := by
  by_cases hframe : (encodeFrame c).isSome = true
  · exact ⟨deliver c s, exec_hostFrame c s hframe⟩
  cases c with
  | read | write | verify | format | reassign | recal | spin | block | loadPut | abort | loadOpen | loadClose
  | loadDrop | commit | tableGet | wipe | query | eventSet | eventAck => exact absurd rfl hframe
  | powerOn | tachPulse | vretLoss => exact ⟨_, rfl⟩
  | reset | lrst | resetRelease | dataTimeout | enterLocked | enterLost | stallTimeout | spinupTimeout
  | retargetTimeout | silenceTimeout | idleTimeout | stepTimerExpiry | settleTimerExpiry | wprotChange
  | resendTimeout => exact guarded_answers _ _ _
  | noticeSent | replySent | doneSent | callSent | blockSent | eventSent | hiByte | addressFieldEnd | dataMarkTimeout
  | dataReadEnd | gap2End | written =>
    simp only [exec, execNoticeSent, execReplySent, execDoneSent, execCallSent, execBlockSent, execEventSent,
      execHiByte, execAddressFieldEnd, execDataMarkTimeout, execDataReadEnd, execGap2End, execWritten]
    split <;> exact ⟨_, rfl⟩
  | huntTimeout =>
    simp only [exec, execHuntTimeout]
    split
    · exact guarded_answers _ _ _
    · exact ⟨_, rfl⟩

/-- Settles O1: the front of the queue is executed with the rest, and `exec` answers a next state for every command. -/
theorem stepTakesFront : Obligations.StepTakesFront :=
  ⟨fun _ _ _ => step_of_pending, fun _ => step_of_idle, exec_answers⟩

end Sys2Proof.Machine
end
